-- ==== Sys2Proof/Word.lean ====
section
/-! DEFINITION. Word.lean: the two data widths of the machine (rules R4, R5) and the plainest views of them. -/

namespace Sys2Proof

/-- One location of memory, one 8-bit register (rule R5). -/
abbrev Byte := BitVec 8

/-- The program counter, the stack pointer, a register pair, an address (rules R4, R5). -/
abbrev Word := BitVec 16

/-- `lo(w) = w[7:0]` (rule R5). -/
def loByte (w : Word) : Byte := w.extractLsb' 0 8

/-- `hi(w) = w[15:8]` (rule R5). -/
def hiByte (w : Word) : Byte := w.extractLsb' 8 8

/-- `h ++ l`: concatenation with `h` in the high bits (rule R5). -/
def mkWord (h l : Byte) : Word := h ++ l

end Sys2Proof
end

