-- ==== Sys2Proof/Syntax.lean ====
section
/-! DEFINITION. Syntax.lean: the instructions of the machine, one constructor per row of `spec/opcode_table.json`
(rules R98, R99, R105), first those with an operand byte or word, then the others, each in the table's order (Lean
compiles a constructor with arguments only among the first 244). A constructor is named for its mnemonic, `Mem` marking an operand in
parentheses; it carries the operand byte or word of its format (rule R91) and nothing else, since every row fixes
the whole opcode byte. -/

namespace Sys2Proof

/-- The instruction set: 255 first bytes other than the 0xCB byte of rule R97 (eleven of them unrecognized, rule
R100), and 256 second bytes after it. -/
inductive Instr where
  /-- `LD BC,d16` (R140). -/
  | ldBcD16 (d16 : Word)
  /-- `LD B,d8` (R111). -/
  | ldBD8 (d8 : Byte)
  /-- `LD (a16),SP` (R141). -/
  | ldMemA16Sp (a16 : Word)
  /-- `LD C,d8` (R111). -/
  | ldCD8 (d8 : Byte)
  /-- `STOP` (R222). -/
  | stop (pad : Byte)
  /-- `LD DE,d16` (R140). -/
  | ldDeD16 (d16 : Word)
  /-- `LD D,d8` (R111). -/
  | ldDD8 (d8 : Byte)
  /-- `JR e8` (R204). -/
  | jrE8 (e8 : Byte)
  /-- `LD E,d8` (R111). -/
  | ldED8 (d8 : Byte)
  /-- `JR NZ,e8` (R205). -/
  | jrNzE8 (e8 : Byte)
  /-- `LD HL,d16` (R140). -/
  | ldHlD16 (d16 : Word)
  /-- `LD H,d8` (R111). -/
  | ldHD8 (d8 : Byte)
  /-- `JR Z,e8` (R205). -/
  | jrZE8 (e8 : Byte)
  /-- `LD L,d8` (R111). -/
  | ldLD8 (d8 : Byte)
  /-- `JR NC,e8` (R205). -/
  | jrNcE8 (e8 : Byte)
  /-- `LD SP,d16` (R140). -/
  | ldSpD16 (d16 : Word)
  /-- `LD (HL),d8` (R114). -/
  | ldMemHlD8 (d8 : Byte)
  /-- `JR C,e8` (R205). -/
  | jrCE8 (e8 : Byte)
  /-- `LD A,d8` (R111). -/
  | ldAD8 (d8 : Byte)
  /-- `JP NZ,a16` (R202). -/
  | jpNzA16 (a16 : Word)
  /-- `JP a16` (R201). -/
  | jpA16 (a16 : Word)
  /-- `CALL NZ,a16` (R207). -/
  | callNzA16 (a16 : Word)
  /-- `ADD A,d8` (R151). -/
  | addAD8 (d8 : Byte)
  /-- `JP Z,a16` (R202). -/
  | jpZA16 (a16 : Word)
  /-- `CALL Z,a16` (R207). -/
  | callZA16 (a16 : Word)
  /-- `CALL a16` (R206). -/
  | callA16 (a16 : Word)
  /-- `ADC A,d8` (R152). -/
  | adcAD8 (d8 : Byte)
  /-- `JP NC,a16` (R202). -/
  | jpNcA16 (a16 : Word)
  /-- `CALL NC,a16` (R207). -/
  | callNcA16 (a16 : Word)
  /-- `SUB d8` (R153). -/
  | subD8 (d8 : Byte)
  /-- `JP C,a16` (R202). -/
  | jpCA16 (a16 : Word)
  /-- `CALL C,a16` (R207). -/
  | callCA16 (a16 : Word)
  /-- `SBC A,d8` (R154). -/
  | sbcAD8 (d8 : Byte)
  /-- `LDH (a8),A` (R122). -/
  | ldhMemA8A (a8 : Byte)
  /-- `AND d8` (R155). -/
  | andD8 (d8 : Byte)
  /-- `ADD SP,e8` (R173). -/
  | addSpE8 (e8 : Byte)
  /-- `LD (a16),A` (R120). -/
  | ldMemA16A (a16 : Word)
  /-- `XOR d8` (R156). -/
  | xorD8 (d8 : Byte)
  /-- `LDH A,(a8)` (R121). -/
  | ldhAMemA8 (a8 : Byte)
  /-- `OR d8` (R157). -/
  | orD8 (d8 : Byte)
  /-- `LD HL,SP+e8` (R143). -/
  | ldHlSpE8 (e8 : Byte)
  /-- `LD A,(a16)` (R119). -/
  | ldAMemA16 (a16 : Word)
  /-- `CP d8` (R158). -/
  | cpD8 (d8 : Byte)
  /-- `NOP` (R220). -/
  | nop
  /-- `LD (BC),A` (R117). -/
  | ldMemBcA
  /-- `INC BC` (R171). -/
  | incBc
  /-- `INC B` (R159). -/
  | incB
  /-- `DEC B` (R161). -/
  | decB
  /-- `RLCA` (R180). -/
  | rlca
  /-- `ADD HL,BC` (R170). -/
  | addHlBc
  /-- `LD A,(BC)` (R115). -/
  | ldAMemBc
  /-- `DEC BC` (R172). -/
  | decBc
  /-- `INC C` (R159). -/
  | incC
  /-- `DEC C` (R161). -/
  | decC
  /-- `RRCA` (R182). -/
  | rrca
  /-- `LD (DE),A` (R118). -/
  | ldMemDeA
  /-- `INC DE` (R171). -/
  | incDe
  /-- `INC D` (R159). -/
  | incD
  /-- `DEC D` (R161). -/
  | decD
  /-- `RLA` (R181). -/
  | rla
  /-- `ADD HL,DE` (R170). -/
  | addHlDe
  /-- `LD A,(DE)` (R116). -/
  | ldAMemDe
  /-- `DEC DE` (R172). -/
  | decDe
  /-- `INC E` (R159). -/
  | incE
  /-- `DEC E` (R161). -/
  | decE
  /-- `RRA` (R183). -/
  | rra
  /-- `LD (HL+),A` (R125). -/
  | ldMemHlIncA
  /-- `INC HL` (R171). -/
  | incHl
  /-- `INC H` (R159). -/
  | incH
  /-- `DEC H` (R161). -/
  | decH
  /-- `DAA` (R163). -/
  | daa
  /-- `ADD HL,HL` (R170). -/
  | addHlHl
  /-- `LD A,(HL+)` (R126). -/
  | ldAMemHlInc
  /-- `DEC HL` (R172). -/
  | decHl
  /-- `INC L` (R159). -/
  | incL
  /-- `DEC L` (R161). -/
  | decL
  /-- `CPL` (R164). -/
  | cpl
  /-- `LD (HL-),A` (R127). -/
  | ldMemHlDecA
  /-- `INC SP` (R171). -/
  | incSp
  /-- `INC (HL)` (R160). -/
  | incMemHl
  /-- `DEC (HL)` (R162). -/
  | decMemHl
  /-- `SCF` (R165). -/
  | scf
  /-- `ADD HL,SP` (R170). -/
  | addHlSp
  /-- `LD A,(HL-)` (R128). -/
  | ldAMemHlDec
  /-- `DEC SP` (R172). -/
  | decSp
  /-- `INC A` (R159). -/
  | incA
  /-- `DEC A` (R161). -/
  | decA
  /-- `CCF` (R166). -/
  | ccf
  /-- `LD B,B` (R110). -/
  | ldBB
  /-- `LD B,C` (R110). -/
  | ldBC
  /-- `LD B,D` (R110). -/
  | ldBD
  /-- `LD B,E` (R110). -/
  | ldBE
  /-- `LD B,H` (R110). -/
  | ldBH
  /-- `LD B,L` (R110). -/
  | ldBL
  /-- `LD B,(HL)` (R112). -/
  | ldBMemHl
  /-- `LD B,A` (R110). -/
  | ldBA
  /-- `LD C,B` (R110). -/
  | ldCB
  /-- `LD C,C` (R110). -/
  | ldCC
  /-- `LD C,D` (R110). -/
  | ldCD
  /-- `LD C,E` (R110). -/
  | ldCE
  /-- `LD C,H` (R110). -/
  | ldCH
  /-- `LD C,L` (R110). -/
  | ldCL
  /-- `LD C,(HL)` (R112). -/
  | ldCMemHl
  /-- `LD C,A` (R110). -/
  | ldCA
  /-- `LD D,B` (R110). -/
  | ldDB
  /-- `LD D,C` (R110). -/
  | ldDC
  /-- `LD D,D` (R110). -/
  | ldDD
  /-- `LD D,E` (R110). -/
  | ldDE
  /-- `LD D,H` (R110). -/
  | ldDH
  /-- `LD D,L` (R110). -/
  | ldDL
  /-- `LD D,(HL)` (R112). -/
  | ldDMemHl
  /-- `LD D,A` (R110). -/
  | ldDA
  /-- `LD E,B` (R110). -/
  | ldEB
  /-- `LD E,C` (R110). -/
  | ldEC
  /-- `LD E,D` (R110). -/
  | ldED
  /-- `LD E,E` (R110). -/
  | ldEE
  /-- `LD E,H` (R110). -/
  | ldEH
  /-- `LD E,L` (R110). -/
  | ldEL
  /-- `LD E,(HL)` (R112). -/
  | ldEMemHl
  /-- `LD E,A` (R110). -/
  | ldEA
  /-- `LD H,B` (R110). -/
  | ldHB
  /-- `LD H,C` (R110). -/
  | ldHC
  /-- `LD H,D` (R110). -/
  | ldHD
  /-- `LD H,E` (R110). -/
  | ldHE
  /-- `LD H,H` (R110). -/
  | ldHH
  /-- `LD H,L` (R110). -/
  | ldHL
  /-- `LD H,(HL)` (R112). -/
  | ldHMemHl
  /-- `LD H,A` (R110). -/
  | ldHA
  /-- `LD L,B` (R110). -/
  | ldLB
  /-- `LD L,C` (R110). -/
  | ldLC
  /-- `LD L,D` (R110). -/
  | ldLD
  /-- `LD L,E` (R110). -/
  | ldLE
  /-- `LD L,H` (R110). -/
  | ldLH
  /-- `LD L,L` (R110). -/
  | ldLL
  /-- `LD L,(HL)` (R112). -/
  | ldLMemHl
  /-- `LD L,A` (R110). -/
  | ldLA
  /-- `LD (HL),B` (R113). -/
  | ldMemHlB
  /-- `LD (HL),C` (R113). -/
  | ldMemHlC
  /-- `LD (HL),D` (R113). -/
  | ldMemHlD
  /-- `LD (HL),E` (R113). -/
  | ldMemHlE
  /-- `LD (HL),H` (R113). -/
  | ldMemHlH
  /-- `LD (HL),L` (R113). -/
  | ldMemHlL
  /-- `HALT` (R221). -/
  | halt
  /-- `LD (HL),A` (R113). -/
  | ldMemHlA
  /-- `LD A,B` (R110). -/
  | ldAB
  /-- `LD A,C` (R110). -/
  | ldAC
  /-- `LD A,D` (R110). -/
  | ldAD
  /-- `LD A,E` (R110). -/
  | ldAE
  /-- `LD A,H` (R110). -/
  | ldAH
  /-- `LD A,L` (R110). -/
  | ldAL
  /-- `LD A,(HL)` (R112). -/
  | ldAMemHl
  /-- `LD A,A` (R110). -/
  | ldAA
  /-- `ADD A,B` (R151). -/
  | addAB
  /-- `ADD A,C` (R151). -/
  | addAC
  /-- `ADD A,D` (R151). -/
  | addAD
  /-- `ADD A,E` (R151). -/
  | addAE
  /-- `ADD A,H` (R151). -/
  | addAH
  /-- `ADD A,L` (R151). -/
  | addAL
  /-- `ADD A,(HL)` (R151). -/
  | addAMemHl
  /-- `ADD A,A` (R151). -/
  | addAA
  /-- `ADC A,B` (R152). -/
  | adcAB
  /-- `ADC A,C` (R152). -/
  | adcAC
  /-- `ADC A,D` (R152). -/
  | adcAD
  /-- `ADC A,E` (R152). -/
  | adcAE
  /-- `ADC A,H` (R152). -/
  | adcAH
  /-- `ADC A,L` (R152). -/
  | adcAL
  /-- `ADC A,(HL)` (R152). -/
  | adcAMemHl
  /-- `ADC A,A` (R152). -/
  | adcAA
  /-- `SUB B` (R153). -/
  | subB
  /-- `SUB C` (R153). -/
  | subC
  /-- `SUB D` (R153). -/
  | subD
  /-- `SUB E` (R153). -/
  | subE
  /-- `SUB H` (R153). -/
  | subH
  /-- `SUB L` (R153). -/
  | subL
  /-- `SUB (HL)` (R153). -/
  | subMemHl
  /-- `SUB A` (R153). -/
  | subA
  /-- `SBC A,B` (R154). -/
  | sbcAB
  /-- `SBC A,C` (R154). -/
  | sbcAC
  /-- `SBC A,D` (R154). -/
  | sbcAD
  /-- `SBC A,E` (R154). -/
  | sbcAE
  /-- `SBC A,H` (R154). -/
  | sbcAH
  /-- `SBC A,L` (R154). -/
  | sbcAL
  /-- `SBC A,(HL)` (R154). -/
  | sbcAMemHl
  /-- `SBC A,A` (R154). -/
  | sbcAA
  /-- `AND B` (R155). -/
  | andB
  /-- `AND C` (R155). -/
  | andC
  /-- `AND D` (R155). -/
  | andD
  /-- `AND E` (R155). -/
  | andE
  /-- `AND H` (R155). -/
  | andH
  /-- `AND L` (R155). -/
  | andL
  /-- `AND (HL)` (R155). -/
  | andMemHl
  /-- `AND A` (R155). -/
  | andA
  /-- `XOR B` (R156). -/
  | xorB
  /-- `XOR C` (R156). -/
  | xorC
  /-- `XOR D` (R156). -/
  | xorD
  /-- `XOR E` (R156). -/
  | xorE
  /-- `XOR H` (R156). -/
  | xorH
  /-- `XOR L` (R156). -/
  | xorL
  /-- `XOR (HL)` (R156). -/
  | xorMemHl
  /-- `XOR A` (R156). -/
  | xorA
  /-- `OR B` (R157). -/
  | orB
  /-- `OR C` (R157). -/
  | orC
  /-- `OR D` (R157). -/
  | orD
  /-- `OR E` (R157). -/
  | orE
  /-- `OR H` (R157). -/
  | orH
  /-- `OR L` (R157). -/
  | orL
  /-- `OR (HL)` (R157). -/
  | orMemHl
  /-- `OR A` (R157). -/
  | orA
  /-- `CP B` (R158). -/
  | cpB
  /-- `CP C` (R158). -/
  | cpC
  /-- `CP D` (R158). -/
  | cpD
  /-- `CP E` (R158). -/
  | cpE
  /-- `CP H` (R158). -/
  | cpH
  /-- `CP L` (R158). -/
  | cpL
  /-- `CP (HL)` (R158). -/
  | cpMemHl
  /-- `CP A` (R158). -/
  | cpA
  /-- `RET NZ` (R209). -/
  | retNz
  /-- `POP BC` (R145). -/
  | popBc
  /-- `PUSH BC` (R144). -/
  | pushBc
  /-- `RST 00H` (R211). -/
  | rst00
  /-- `RET Z` (R209). -/
  | retZ
  /-- `RET` (R208). -/
  | ret
  /-- `RST 08H` (R211). -/
  | rst08
  /-- `RET NC` (R209). -/
  | retNc
  /-- `POP DE` (R145). -/
  | popDe
  /-- `unrecognized 0xD3` (R226). -/
  | unrecognizedD3
  /-- `PUSH DE` (R144). -/
  | pushDe
  /-- `RST 10H` (R211). -/
  | rst10
  /-- `RET C` (R209). -/
  | retC
  /-- `RETI` (R210). -/
  | reti
  /-- `unrecognized 0xDB` (R226). -/
  | unrecognizedDB
  /-- `unrecognized 0xDD` (R226). -/
  | unrecognizedDD
  /-- `RST 18H` (R211). -/
  | rst18
  /-- `POP HL` (R145). -/
  | popHl
  /-- `LD (C),A` (R124). -/
  | ldMemCA
  /-- `unrecognized 0xE3` (R226). -/
  | unrecognizedE3
  /-- `unrecognized 0xE4` (R226). -/
  | unrecognizedE4
  /-- `PUSH HL` (R144). -/
  | pushHl
  /-- `RST 20H` (R211). -/
  | rst20
  /-- `JP HL` (R203). -/
  | jpHl
  /-- `unrecognized 0xEB` (R226). -/
  | unrecognizedEB
  /-- `unrecognized 0xEC` (R226). -/
  | unrecognizedEC
  /-- `unrecognized 0xED` (R226). -/
  | unrecognizedED
  /-- `RST 28H` (R211). -/
  | rst28
  /-- `POP AF` (R146). -/
  | popAf
  /-- `LD A,(C)` (R123). -/
  | ldAMemC
  /-- `DI` (R223). -/
  | di
  /-- `unrecognized 0xF4` (R226). -/
  | unrecognizedF4
  /-- `PUSH AF` (R144). -/
  | pushAf
  /-- `RST 30H` (R211). -/
  | rst30
  /-- `LD SP,HL` (R142). -/
  | ldSpHl
  /-- `EI` (R224). -/
  | ei
  /-- `unrecognized 0xFC` (R226). -/
  | unrecognizedFC
  /-- `unrecognized 0xFD` (R226). -/
  | unrecognizedFD
  /-- `RST 38H` (R211). -/
  | rst38
  /-- `RLC B` (R185). -/
  | rlcB
  /-- `RLC C` (R185). -/
  | rlcC
  /-- `RLC D` (R185). -/
  | rlcD
  /-- `RLC E` (R185). -/
  | rlcE
  /-- `RLC H` (R185). -/
  | rlcH
  /-- `RLC L` (R185). -/
  | rlcL
  /-- `RLC (HL)` (R185). -/
  | rlcMemHl
  /-- `RLC A` (R185). -/
  | rlcA
  /-- `RRC B` (R186). -/
  | rrcB
  /-- `RRC C` (R186). -/
  | rrcC
  /-- `RRC D` (R186). -/
  | rrcD
  /-- `RRC E` (R186). -/
  | rrcE
  /-- `RRC H` (R186). -/
  | rrcH
  /-- `RRC L` (R186). -/
  | rrcL
  /-- `RRC (HL)` (R186). -/
  | rrcMemHl
  /-- `RRC A` (R186). -/
  | rrcA
  /-- `RL B` (R187). -/
  | rlB
  /-- `RL C` (R187). -/
  | rlC
  /-- `RL D` (R187). -/
  | rlD
  /-- `RL E` (R187). -/
  | rlE
  /-- `RL H` (R187). -/
  | rlH
  /-- `RL L` (R187). -/
  | rlL
  /-- `RL (HL)` (R187). -/
  | rlMemHl
  /-- `RL A` (R187). -/
  | rlA
  /-- `RR B` (R188). -/
  | rrB
  /-- `RR C` (R188). -/
  | rrC
  /-- `RR D` (R188). -/
  | rrD
  /-- `RR E` (R188). -/
  | rrE
  /-- `RR H` (R188). -/
  | rrH
  /-- `RR L` (R188). -/
  | rrL
  /-- `RR (HL)` (R188). -/
  | rrMemHl
  /-- `RR A` (R188). -/
  | rrA
  /-- `SLA B` (R189). -/
  | slaB
  /-- `SLA C` (R189). -/
  | slaC
  /-- `SLA D` (R189). -/
  | slaD
  /-- `SLA E` (R189). -/
  | slaE
  /-- `SLA H` (R189). -/
  | slaH
  /-- `SLA L` (R189). -/
  | slaL
  /-- `SLA (HL)` (R189). -/
  | slaMemHl
  /-- `SLA A` (R189). -/
  | slaA
  /-- `SRA B` (R190). -/
  | sraB
  /-- `SRA C` (R190). -/
  | sraC
  /-- `SRA D` (R190). -/
  | sraD
  /-- `SRA E` (R190). -/
  | sraE
  /-- `SRA H` (R190). -/
  | sraH
  /-- `SRA L` (R190). -/
  | sraL
  /-- `SRA (HL)` (R190). -/
  | sraMemHl
  /-- `SRA A` (R190). -/
  | sraA
  /-- `SWAP B` (R191). -/
  | swapB
  /-- `SWAP C` (R191). -/
  | swapC
  /-- `SWAP D` (R191). -/
  | swapD
  /-- `SWAP E` (R191). -/
  | swapE
  /-- `SWAP H` (R191). -/
  | swapH
  /-- `SWAP L` (R191). -/
  | swapL
  /-- `SWAP (HL)` (R191). -/
  | swapMemHl
  /-- `SWAP A` (R191). -/
  | swapA
  /-- `SRL B` (R192). -/
  | srlB
  /-- `SRL C` (R192). -/
  | srlC
  /-- `SRL D` (R192). -/
  | srlD
  /-- `SRL E` (R192). -/
  | srlE
  /-- `SRL H` (R192). -/
  | srlH
  /-- `SRL L` (R192). -/
  | srlL
  /-- `SRL (HL)` (R192). -/
  | srlMemHl
  /-- `SRL A` (R192). -/
  | srlA
  /-- `BIT 0,B` (R193). -/
  | bit0B
  /-- `BIT 0,C` (R193). -/
  | bit0C
  /-- `BIT 0,D` (R193). -/
  | bit0D
  /-- `BIT 0,E` (R193). -/
  | bit0E
  /-- `BIT 0,H` (R193). -/
  | bit0H
  /-- `BIT 0,L` (R193). -/
  | bit0L
  /-- `BIT 0,(HL)` (R193). -/
  | bit0MemHl
  /-- `BIT 0,A` (R193). -/
  | bit0A
  /-- `BIT 1,B` (R193). -/
  | bit1B
  /-- `BIT 1,C` (R193). -/
  | bit1C
  /-- `BIT 1,D` (R193). -/
  | bit1D
  /-- `BIT 1,E` (R193). -/
  | bit1E
  /-- `BIT 1,H` (R193). -/
  | bit1H
  /-- `BIT 1,L` (R193). -/
  | bit1L
  /-- `BIT 1,(HL)` (R193). -/
  | bit1MemHl
  /-- `BIT 1,A` (R193). -/
  | bit1A
  /-- `BIT 2,B` (R193). -/
  | bit2B
  /-- `BIT 2,C` (R193). -/
  | bit2C
  /-- `BIT 2,D` (R193). -/
  | bit2D
  /-- `BIT 2,E` (R193). -/
  | bit2E
  /-- `BIT 2,H` (R193). -/
  | bit2H
  /-- `BIT 2,L` (R193). -/
  | bit2L
  /-- `BIT 2,(HL)` (R193). -/
  | bit2MemHl
  /-- `BIT 2,A` (R193). -/
  | bit2A
  /-- `BIT 3,B` (R193). -/
  | bit3B
  /-- `BIT 3,C` (R193). -/
  | bit3C
  /-- `BIT 3,D` (R193). -/
  | bit3D
  /-- `BIT 3,E` (R193). -/
  | bit3E
  /-- `BIT 3,H` (R193). -/
  | bit3H
  /-- `BIT 3,L` (R193). -/
  | bit3L
  /-- `BIT 3,(HL)` (R193). -/
  | bit3MemHl
  /-- `BIT 3,A` (R193). -/
  | bit3A
  /-- `BIT 4,B` (R193). -/
  | bit4B
  /-- `BIT 4,C` (R193). -/
  | bit4C
  /-- `BIT 4,D` (R193). -/
  | bit4D
  /-- `BIT 4,E` (R193). -/
  | bit4E
  /-- `BIT 4,H` (R193). -/
  | bit4H
  /-- `BIT 4,L` (R193). -/
  | bit4L
  /-- `BIT 4,(HL)` (R193). -/
  | bit4MemHl
  /-- `BIT 4,A` (R193). -/
  | bit4A
  /-- `BIT 5,B` (R193). -/
  | bit5B
  /-- `BIT 5,C` (R193). -/
  | bit5C
  /-- `BIT 5,D` (R193). -/
  | bit5D
  /-- `BIT 5,E` (R193). -/
  | bit5E
  /-- `BIT 5,H` (R193). -/
  | bit5H
  /-- `BIT 5,L` (R193). -/
  | bit5L
  /-- `BIT 5,(HL)` (R193). -/
  | bit5MemHl
  /-- `BIT 5,A` (R193). -/
  | bit5A
  /-- `BIT 6,B` (R193). -/
  | bit6B
  /-- `BIT 6,C` (R193). -/
  | bit6C
  /-- `BIT 6,D` (R193). -/
  | bit6D
  /-- `BIT 6,E` (R193). -/
  | bit6E
  /-- `BIT 6,H` (R193). -/
  | bit6H
  /-- `BIT 6,L` (R193). -/
  | bit6L
  /-- `BIT 6,(HL)` (R193). -/
  | bit6MemHl
  /-- `BIT 6,A` (R193). -/
  | bit6A
  /-- `BIT 7,B` (R193). -/
  | bit7B
  /-- `BIT 7,C` (R193). -/
  | bit7C
  /-- `BIT 7,D` (R193). -/
  | bit7D
  /-- `BIT 7,E` (R193). -/
  | bit7E
  /-- `BIT 7,H` (R193). -/
  | bit7H
  /-- `BIT 7,L` (R193). -/
  | bit7L
  /-- `BIT 7,(HL)` (R193). -/
  | bit7MemHl
  /-- `BIT 7,A` (R193). -/
  | bit7A
  /-- `RES 0,B` (R194). -/
  | res0B
  /-- `RES 0,C` (R194). -/
  | res0C
  /-- `RES 0,D` (R194). -/
  | res0D
  /-- `RES 0,E` (R194). -/
  | res0E
  /-- `RES 0,H` (R194). -/
  | res0H
  /-- `RES 0,L` (R194). -/
  | res0L
  /-- `RES 0,(HL)` (R194). -/
  | res0MemHl
  /-- `RES 0,A` (R194). -/
  | res0A
  /-- `RES 1,B` (R194). -/
  | res1B
  /-- `RES 1,C` (R194). -/
  | res1C
  /-- `RES 1,D` (R194). -/
  | res1D
  /-- `RES 1,E` (R194). -/
  | res1E
  /-- `RES 1,H` (R194). -/
  | res1H
  /-- `RES 1,L` (R194). -/
  | res1L
  /-- `RES 1,(HL)` (R194). -/
  | res1MemHl
  /-- `RES 1,A` (R194). -/
  | res1A
  /-- `RES 2,B` (R194). -/
  | res2B
  /-- `RES 2,C` (R194). -/
  | res2C
  /-- `RES 2,D` (R194). -/
  | res2D
  /-- `RES 2,E` (R194). -/
  | res2E
  /-- `RES 2,H` (R194). -/
  | res2H
  /-- `RES 2,L` (R194). -/
  | res2L
  /-- `RES 2,(HL)` (R194). -/
  | res2MemHl
  /-- `RES 2,A` (R194). -/
  | res2A
  /-- `RES 3,B` (R194). -/
  | res3B
  /-- `RES 3,C` (R194). -/
  | res3C
  /-- `RES 3,D` (R194). -/
  | res3D
  /-- `RES 3,E` (R194). -/
  | res3E
  /-- `RES 3,H` (R194). -/
  | res3H
  /-- `RES 3,L` (R194). -/
  | res3L
  /-- `RES 3,(HL)` (R194). -/
  | res3MemHl
  /-- `RES 3,A` (R194). -/
  | res3A
  /-- `RES 4,B` (R194). -/
  | res4B
  /-- `RES 4,C` (R194). -/
  | res4C
  /-- `RES 4,D` (R194). -/
  | res4D
  /-- `RES 4,E` (R194). -/
  | res4E
  /-- `RES 4,H` (R194). -/
  | res4H
  /-- `RES 4,L` (R194). -/
  | res4L
  /-- `RES 4,(HL)` (R194). -/
  | res4MemHl
  /-- `RES 4,A` (R194). -/
  | res4A
  /-- `RES 5,B` (R194). -/
  | res5B
  /-- `RES 5,C` (R194). -/
  | res5C
  /-- `RES 5,D` (R194). -/
  | res5D
  /-- `RES 5,E` (R194). -/
  | res5E
  /-- `RES 5,H` (R194). -/
  | res5H
  /-- `RES 5,L` (R194). -/
  | res5L
  /-- `RES 5,(HL)` (R194). -/
  | res5MemHl
  /-- `RES 5,A` (R194). -/
  | res5A
  /-- `RES 6,B` (R194). -/
  | res6B
  /-- `RES 6,C` (R194). -/
  | res6C
  /-- `RES 6,D` (R194). -/
  | res6D
  /-- `RES 6,E` (R194). -/
  | res6E
  /-- `RES 6,H` (R194). -/
  | res6H
  /-- `RES 6,L` (R194). -/
  | res6L
  /-- `RES 6,(HL)` (R194). -/
  | res6MemHl
  /-- `RES 6,A` (R194). -/
  | res6A
  /-- `RES 7,B` (R194). -/
  | res7B
  /-- `RES 7,C` (R194). -/
  | res7C
  /-- `RES 7,D` (R194). -/
  | res7D
  /-- `RES 7,E` (R194). -/
  | res7E
  /-- `RES 7,H` (R194). -/
  | res7H
  /-- `RES 7,L` (R194). -/
  | res7L
  /-- `RES 7,(HL)` (R194). -/
  | res7MemHl
  /-- `RES 7,A` (R194). -/
  | res7A
  /-- `SET 0,B` (R195). -/
  | set0B
  /-- `SET 0,C` (R195). -/
  | set0C
  /-- `SET 0,D` (R195). -/
  | set0D
  /-- `SET 0,E` (R195). -/
  | set0E
  /-- `SET 0,H` (R195). -/
  | set0H
  /-- `SET 0,L` (R195). -/
  | set0L
  /-- `SET 0,(HL)` (R195). -/
  | set0MemHl
  /-- `SET 0,A` (R195). -/
  | set0A
  /-- `SET 1,B` (R195). -/
  | set1B
  /-- `SET 1,C` (R195). -/
  | set1C
  /-- `SET 1,D` (R195). -/
  | set1D
  /-- `SET 1,E` (R195). -/
  | set1E
  /-- `SET 1,H` (R195). -/
  | set1H
  /-- `SET 1,L` (R195). -/
  | set1L
  /-- `SET 1,(HL)` (R195). -/
  | set1MemHl
  /-- `SET 1,A` (R195). -/
  | set1A
  /-- `SET 2,B` (R195). -/
  | set2B
  /-- `SET 2,C` (R195). -/
  | set2C
  /-- `SET 2,D` (R195). -/
  | set2D
  /-- `SET 2,E` (R195). -/
  | set2E
  /-- `SET 2,H` (R195). -/
  | set2H
  /-- `SET 2,L` (R195). -/
  | set2L
  /-- `SET 2,(HL)` (R195). -/
  | set2MemHl
  /-- `SET 2,A` (R195). -/
  | set2A
  /-- `SET 3,B` (R195). -/
  | set3B
  /-- `SET 3,C` (R195). -/
  | set3C
  /-- `SET 3,D` (R195). -/
  | set3D
  /-- `SET 3,E` (R195). -/
  | set3E
  /-- `SET 3,H` (R195). -/
  | set3H
  /-- `SET 3,L` (R195). -/
  | set3L
  /-- `SET 3,(HL)` (R195). -/
  | set3MemHl
  /-- `SET 3,A` (R195). -/
  | set3A
  /-- `SET 4,B` (R195). -/
  | set4B
  /-- `SET 4,C` (R195). -/
  | set4C
  /-- `SET 4,D` (R195). -/
  | set4D
  /-- `SET 4,E` (R195). -/
  | set4E
  /-- `SET 4,H` (R195). -/
  | set4H
  /-- `SET 4,L` (R195). -/
  | set4L
  /-- `SET 4,(HL)` (R195). -/
  | set4MemHl
  /-- `SET 4,A` (R195). -/
  | set4A
  /-- `SET 5,B` (R195). -/
  | set5B
  /-- `SET 5,C` (R195). -/
  | set5C
  /-- `SET 5,D` (R195). -/
  | set5D
  /-- `SET 5,E` (R195). -/
  | set5E
  /-- `SET 5,H` (R195). -/
  | set5H
  /-- `SET 5,L` (R195). -/
  | set5L
  /-- `SET 5,(HL)` (R195). -/
  | set5MemHl
  /-- `SET 5,A` (R195). -/
  | set5A
  /-- `SET 6,B` (R195). -/
  | set6B
  /-- `SET 6,C` (R195). -/
  | set6C
  /-- `SET 6,D` (R195). -/
  | set6D
  /-- `SET 6,E` (R195). -/
  | set6E
  /-- `SET 6,H` (R195). -/
  | set6H
  /-- `SET 6,L` (R195). -/
  | set6L
  /-- `SET 6,(HL)` (R195). -/
  | set6MemHl
  /-- `SET 6,A` (R195). -/
  | set6A
  /-- `SET 7,B` (R195). -/
  | set7B
  /-- `SET 7,C` (R195). -/
  | set7C
  /-- `SET 7,D` (R195). -/
  | set7D
  /-- `SET 7,E` (R195). -/
  | set7E
  /-- `SET 7,H` (R195). -/
  | set7H
  /-- `SET 7,L` (R195). -/
  | set7L
  /-- `SET 7,(HL)` (R195). -/
  | set7MemHl
  /-- `SET 7,A` (R195). -/
  | set7A
  deriving DecidableEq, Repr

end Sys2Proof
end

