-- ==== Sys2Proof/Decode.lean ====
section
/-! DEFINITION. Decode.lean: the fields of an opcode byte (rules R91 to R96), the decoder written from the map by bit
pattern (rules R98, R99), the encoder written from the grids of opcode values, and the host's `decodeTableWord`. -/

namespace Sys2Proof

/-! ## The fields -/

/-- A 3-bit field: `y`, `z`, a bit index `b` or a restart index `t` (rules R91, R96). -/
inductive Oct where
  | o0 | o1 | o2 | o3 | o4 | o5 | o6 | o7
  deriving DecidableEq, Repr

/-- The 2-bit fields `x` and `p` (rule R91). -/
inductive Quad where
  | q0 | q1 | q2 | q3
  deriving DecidableEq, Repr

/-- The seven 8-bit registers an instruction can name (rules R20, R92). -/
inductive Reg where
  | b | c | d | e | h | l | a
  deriving DecidableEq, Repr

/-- The operand of the 3-bit register field `r` (rule R92): a register, or the byte of memory at HL. -/
inductive R8 where
  | reg (r : Reg)
  | memHl
  deriving DecidableEq, Repr

/-- The pair field `rr` (rule R93). -/
inductive RR where
  | bc | de | hl | sp
  deriving DecidableEq, Repr

/-- The pair field `qq` (rule R93). -/
inductive QQ where
  | bc | de | hl | af
  deriving DecidableEq, Repr

/-- The condition field `cc` (rule R94). -/
inductive Cond where
  | nz | z | nc | c
  deriving DecidableEq, Repr

/-- The ALU operation selector (rule R96). -/
inductive AluOp where
  | add | adc | sub | sbc | and | xor | or | cp
  deriving DecidableEq, Repr

/-- The rotate and shift selector (rule R96). -/
inductive RotOp where
  | rlc | rrc | rl | rr | sla | sra | swap | srl
  deriving DecidableEq, Repr

/-- The length of an instruction in bytes (rule R91): 1, 2 or 3. -/
inductive Len where
  | one | two | three
  deriving DecidableEq, Repr

/-- The number of bytes. -/
def Len.toNat : Len → Nat
  | .one => 1
  | .two => 2
  | .three => 3

/-- The number a 3-bit field holds. -/
def Oct.toNat : Oct → Nat
  | .o0 => 0 | .o1 => 1 | .o2 => 2 | .o3 => 3 | .o4 => 4 | .o5 => 5 | .o6 => 6 | .o7 => 7

/-- A 3-bit field from the number it holds. -/
def Oct.ofCode : Nat → Oct
  | 0 => .o0 | 1 => .o1 | 2 => .o2 | 3 => .o3 | 4 => .o4 | 5 => .o5 | 6 => .o6 | _ => .o7

/-- A 2-bit field from the number it holds. -/
def Quad.ofCode : Nat → Quad
  | 0 => .q0 | 1 => .q1 | 2 => .q2 | _ => .q3

/-- `op[7:6]` (rule R91). -/
def fieldX (op : Byte) : Quad := Quad.ofCode (op.toNat / 64 % 4)

/-- `op[5:3]` (rule R91). -/
def fieldY (op : Byte) : Oct := Oct.ofCode (op.toNat / 8 % 8)

/-- `op[2:0]` (rule R91). -/
def fieldZ (op : Byte) : Oct := Oct.ofCode (op.toNat % 8)

/-- The operand a register code names (rule R92). -/
def Oct.r8 : Oct → R8
  | .o0 => .reg .b | .o1 => .reg .c | .o2 => .reg .d | .o3 => .reg .e
  | .o4 => .reg .h | .o5 => .reg .l | .o6 => .memHl | .o7 => .reg .a

/-- The ALU operation a selector names (rule R96). -/
def Oct.aluOp : Oct → AluOp
  | .o0 => .add | .o1 => .adc | .o2 => .sub | .o3 => .sbc
  | .o4 => .and | .o5 => .xor | .o6 => .or | .o7 => .cp

/-- The rotate or shift a selector names (rule R96). -/
def Oct.rotOp : Oct → RotOp
  | .o0 => .rlc | .o1 => .rrc | .o2 => .rl | .o3 => .rr
  | .o4 => .sla | .o5 => .sra | .o6 => .swap | .o7 => .srl

/-! ## The families of the maps

Each function below is one line of rule R98's table by bit pattern or of rule R99's table: the instruction that the
line's name stands for with the given fields. -/

/-- `LD r8[y],r8[z]`, and HALT in the slot of `y = z = 6` (rules R98, R110, R112, R113, R221). -/
def Instr.ldR8R8 : R8 → R8 → Instr
  | .reg .b, .reg .b => .ldBB
  | .reg .b, .reg .c => .ldBC
  | .reg .b, .reg .d => .ldBD
  | .reg .b, .reg .e => .ldBE
  | .reg .b, .reg .h => .ldBH
  | .reg .b, .reg .l => .ldBL
  | .reg .b, .memHl => .ldBMemHl
  | .reg .b, .reg .a => .ldBA
  | .reg .c, .reg .b => .ldCB
  | .reg .c, .reg .c => .ldCC
  | .reg .c, .reg .d => .ldCD
  | .reg .c, .reg .e => .ldCE
  | .reg .c, .reg .h => .ldCH
  | .reg .c, .reg .l => .ldCL
  | .reg .c, .memHl => .ldCMemHl
  | .reg .c, .reg .a => .ldCA
  | .reg .d, .reg .b => .ldDB
  | .reg .d, .reg .c => .ldDC
  | .reg .d, .reg .d => .ldDD
  | .reg .d, .reg .e => .ldDE
  | .reg .d, .reg .h => .ldDH
  | .reg .d, .reg .l => .ldDL
  | .reg .d, .memHl => .ldDMemHl
  | .reg .d, .reg .a => .ldDA
  | .reg .e, .reg .b => .ldEB
  | .reg .e, .reg .c => .ldEC
  | .reg .e, .reg .d => .ldED
  | .reg .e, .reg .e => .ldEE
  | .reg .e, .reg .h => .ldEH
  | .reg .e, .reg .l => .ldEL
  | .reg .e, .memHl => .ldEMemHl
  | .reg .e, .reg .a => .ldEA
  | .reg .h, .reg .b => .ldHB
  | .reg .h, .reg .c => .ldHC
  | .reg .h, .reg .d => .ldHD
  | .reg .h, .reg .e => .ldHE
  | .reg .h, .reg .h => .ldHH
  | .reg .h, .reg .l => .ldHL
  | .reg .h, .memHl => .ldHMemHl
  | .reg .h, .reg .a => .ldHA
  | .reg .l, .reg .b => .ldLB
  | .reg .l, .reg .c => .ldLC
  | .reg .l, .reg .d => .ldLD
  | .reg .l, .reg .e => .ldLE
  | .reg .l, .reg .h => .ldLH
  | .reg .l, .reg .l => .ldLL
  | .reg .l, .memHl => .ldLMemHl
  | .reg .l, .reg .a => .ldLA
  | .memHl, .reg .b => .ldMemHlB
  | .memHl, .reg .c => .ldMemHlC
  | .memHl, .reg .d => .ldMemHlD
  | .memHl, .reg .e => .ldMemHlE
  | .memHl, .reg .h => .ldMemHlH
  | .memHl, .reg .l => .ldMemHlL
  | .memHl, .memHl => .halt
  | .memHl, .reg .a => .ldMemHlA
  | .reg .a, .reg .b => .ldAB
  | .reg .a, .reg .c => .ldAC
  | .reg .a, .reg .d => .ldAD
  | .reg .a, .reg .e => .ldAE
  | .reg .a, .reg .h => .ldAH
  | .reg .a, .reg .l => .ldAL
  | .reg .a, .memHl => .ldAMemHl
  | .reg .a, .reg .a => .ldAA

/-- `LD r8[y],d8` (rules R111, R114). -/
def Instr.ldR8D8 : R8 → Byte → Instr
  | .reg .b, d8 => .ldBD8 d8
  | .reg .c, d8 => .ldCD8 d8
  | .reg .d, d8 => .ldDD8 d8
  | .reg .e, d8 => .ldED8 d8
  | .reg .h, d8 => .ldHD8 d8
  | .reg .l, d8 => .ldLD8 d8
  | .memHl, d8 => .ldMemHlD8 d8
  | .reg .a, d8 => .ldAD8 d8

/-- `INC r8[y]` (rules R159, R160). -/
def Instr.incR8 : R8 → Instr
  | .reg .b => .incB
  | .reg .c => .incC
  | .reg .d => .incD
  | .reg .e => .incE
  | .reg .h => .incH
  | .reg .l => .incL
  | .memHl => .incMemHl
  | .reg .a => .incA

/-- `DEC r8[y]` (rules R161, R162). -/
def Instr.decR8 : R8 → Instr
  | .reg .b => .decB
  | .reg .c => .decC
  | .reg .d => .decD
  | .reg .e => .decE
  | .reg .h => .decH
  | .reg .l => .decL
  | .memHl => .decMemHl
  | .reg .a => .decA

/-- `alu[y] A,r8[z]` (rules R150 to R158). -/
def Instr.aluR8 : AluOp → R8 → Instr
  | .add, .reg .b => .addAB
  | .add, .reg .c => .addAC
  | .add, .reg .d => .addAD
  | .add, .reg .e => .addAE
  | .add, .reg .h => .addAH
  | .add, .reg .l => .addAL
  | .add, .memHl => .addAMemHl
  | .add, .reg .a => .addAA
  | .adc, .reg .b => .adcAB
  | .adc, .reg .c => .adcAC
  | .adc, .reg .d => .adcAD
  | .adc, .reg .e => .adcAE
  | .adc, .reg .h => .adcAH
  | .adc, .reg .l => .adcAL
  | .adc, .memHl => .adcAMemHl
  | .adc, .reg .a => .adcAA
  | .sub, .reg .b => .subB
  | .sub, .reg .c => .subC
  | .sub, .reg .d => .subD
  | .sub, .reg .e => .subE
  | .sub, .reg .h => .subH
  | .sub, .reg .l => .subL
  | .sub, .memHl => .subMemHl
  | .sub, .reg .a => .subA
  | .sbc, .reg .b => .sbcAB
  | .sbc, .reg .c => .sbcAC
  | .sbc, .reg .d => .sbcAD
  | .sbc, .reg .e => .sbcAE
  | .sbc, .reg .h => .sbcAH
  | .sbc, .reg .l => .sbcAL
  | .sbc, .memHl => .sbcAMemHl
  | .sbc, .reg .a => .sbcAA
  | .and, .reg .b => .andB
  | .and, .reg .c => .andC
  | .and, .reg .d => .andD
  | .and, .reg .e => .andE
  | .and, .reg .h => .andH
  | .and, .reg .l => .andL
  | .and, .memHl => .andMemHl
  | .and, .reg .a => .andA
  | .xor, .reg .b => .xorB
  | .xor, .reg .c => .xorC
  | .xor, .reg .d => .xorD
  | .xor, .reg .e => .xorE
  | .xor, .reg .h => .xorH
  | .xor, .reg .l => .xorL
  | .xor, .memHl => .xorMemHl
  | .xor, .reg .a => .xorA
  | .or, .reg .b => .orB
  | .or, .reg .c => .orC
  | .or, .reg .d => .orD
  | .or, .reg .e => .orE
  | .or, .reg .h => .orH
  | .or, .reg .l => .orL
  | .or, .memHl => .orMemHl
  | .or, .reg .a => .orA
  | .cp, .reg .b => .cpB
  | .cp, .reg .c => .cpC
  | .cp, .reg .d => .cpD
  | .cp, .reg .e => .cpE
  | .cp, .reg .h => .cpH
  | .cp, .reg .l => .cpL
  | .cp, .memHl => .cpMemHl
  | .cp, .reg .a => .cpA

/-- `alu[y] A,d8` (rules R150 to R158). -/
def Instr.aluD8 : AluOp → Byte → Instr
  | .add, d8 => .addAD8 d8
  | .adc, d8 => .adcAD8 d8
  | .sub, d8 => .subD8 d8
  | .sbc, d8 => .sbcAD8 d8
  | .and, d8 => .andD8 d8
  | .xor, d8 => .xorD8 d8
  | .or, d8 => .orD8 d8
  | .cp, d8 => .cpD8 d8

/-- `LD rr[p],d16` (rule R140). -/
def Instr.ldRrD16 : RR → Word → Instr
  | .bc, d16 => .ldBcD16 d16
  | .de, d16 => .ldDeD16 d16
  | .hl, d16 => .ldHlD16 d16
  | .sp, d16 => .ldSpD16 d16

/-- `ADD HL,rr[p]` (rule R170). -/
def Instr.addHlRr : RR → Instr
  | .bc => .addHlBc
  | .de => .addHlDe
  | .hl => .addHlHl
  | .sp => .addHlSp

/-- `INC rr[p]` (rule R171). -/
def Instr.incRr : RR → Instr
  | .bc => .incBc
  | .de => .incDe
  | .hl => .incHl
  | .sp => .incSp

/-- `DEC rr[p]` (rule R172). -/
def Instr.decRr : RR → Instr
  | .bc => .decBc
  | .de => .decDe
  | .hl => .decHl
  | .sp => .decSp

/-- `PUSH qq[p]` (rule R144). -/
def Instr.pushQq : QQ → Instr
  | .bc => .pushBc
  | .de => .pushDe
  | .hl => .pushHl
  | .af => .pushAf

/-- `POP qq[p]` (rules R145, R146). -/
def Instr.popQq : QQ → Instr
  | .bc => .popBc
  | .de => .popDe
  | .hl => .popHl
  | .af => .popAf

/-- `JR cc,e8` (rule R205). -/
def Instr.jrCc : Cond → Byte → Instr
  | .nz, e8 => .jrNzE8 e8
  | .z, e8 => .jrZE8 e8
  | .nc, e8 => .jrNcE8 e8
  | .c, e8 => .jrCE8 e8

/-- `JP cc,a16` (rule R202). -/
def Instr.jpCc : Cond → Word → Instr
  | .nz, a16 => .jpNzA16 a16
  | .z, a16 => .jpZA16 a16
  | .nc, a16 => .jpNcA16 a16
  | .c, a16 => .jpCA16 a16

/-- `CALL cc,a16` (rule R207). -/
def Instr.callCc : Cond → Word → Instr
  | .nz, a16 => .callNzA16 a16
  | .z, a16 => .callZA16 a16
  | .nc, a16 => .callNcA16 a16
  | .c, a16 => .callCA16 a16

/-- `RET cc` (rule R209). -/
def Instr.retCc : Cond → Instr
  | .nz => .retNz
  | .z => .retZ
  | .nc => .retNc
  | .c => .retC

/-- `RST t` (rule R211). -/
def Instr.rst : Oct → Instr
  | .o0 => .rst00
  | .o1 => .rst08
  | .o2 => .rst10
  | .o3 => .rst18
  | .o4 => .rst20
  | .o5 => .rst28
  | .o6 => .rst30
  | .o7 => .rst38

/-- `rot[y] r8[z]` after the prefix (rules R99, R185 to R192). -/
def Instr.rotR8 : RotOp → R8 → Instr
  | .rlc, .reg .b => .rlcB
  | .rlc, .reg .c => .rlcC
  | .rlc, .reg .d => .rlcD
  | .rlc, .reg .e => .rlcE
  | .rlc, .reg .h => .rlcH
  | .rlc, .reg .l => .rlcL
  | .rlc, .memHl => .rlcMemHl
  | .rlc, .reg .a => .rlcA
  | .rrc, .reg .b => .rrcB
  | .rrc, .reg .c => .rrcC
  | .rrc, .reg .d => .rrcD
  | .rrc, .reg .e => .rrcE
  | .rrc, .reg .h => .rrcH
  | .rrc, .reg .l => .rrcL
  | .rrc, .memHl => .rrcMemHl
  | .rrc, .reg .a => .rrcA
  | .rl, .reg .b => .rlB
  | .rl, .reg .c => .rlC
  | .rl, .reg .d => .rlD
  | .rl, .reg .e => .rlE
  | .rl, .reg .h => .rlH
  | .rl, .reg .l => .rlL
  | .rl, .memHl => .rlMemHl
  | .rl, .reg .a => .rlA
  | .rr, .reg .b => .rrB
  | .rr, .reg .c => .rrC
  | .rr, .reg .d => .rrD
  | .rr, .reg .e => .rrE
  | .rr, .reg .h => .rrH
  | .rr, .reg .l => .rrL
  | .rr, .memHl => .rrMemHl
  | .rr, .reg .a => .rrA
  | .sla, .reg .b => .slaB
  | .sla, .reg .c => .slaC
  | .sla, .reg .d => .slaD
  | .sla, .reg .e => .slaE
  | .sla, .reg .h => .slaH
  | .sla, .reg .l => .slaL
  | .sla, .memHl => .slaMemHl
  | .sla, .reg .a => .slaA
  | .sra, .reg .b => .sraB
  | .sra, .reg .c => .sraC
  | .sra, .reg .d => .sraD
  | .sra, .reg .e => .sraE
  | .sra, .reg .h => .sraH
  | .sra, .reg .l => .sraL
  | .sra, .memHl => .sraMemHl
  | .sra, .reg .a => .sraA
  | .swap, .reg .b => .swapB
  | .swap, .reg .c => .swapC
  | .swap, .reg .d => .swapD
  | .swap, .reg .e => .swapE
  | .swap, .reg .h => .swapH
  | .swap, .reg .l => .swapL
  | .swap, .memHl => .swapMemHl
  | .swap, .reg .a => .swapA
  | .srl, .reg .b => .srlB
  | .srl, .reg .c => .srlC
  | .srl, .reg .d => .srlD
  | .srl, .reg .e => .srlE
  | .srl, .reg .h => .srlH
  | .srl, .reg .l => .srlL
  | .srl, .memHl => .srlMemHl
  | .srl, .reg .a => .srlA

/-- `BIT b,r8[z]` after the prefix (rules R99, R193). -/
def Instr.bitR8 : Oct → R8 → Instr
  | .o0, .reg .b => .bit0B
  | .o0, .reg .c => .bit0C
  | .o0, .reg .d => .bit0D
  | .o0, .reg .e => .bit0E
  | .o0, .reg .h => .bit0H
  | .o0, .reg .l => .bit0L
  | .o0, .memHl => .bit0MemHl
  | .o0, .reg .a => .bit0A
  | .o1, .reg .b => .bit1B
  | .o1, .reg .c => .bit1C
  | .o1, .reg .d => .bit1D
  | .o1, .reg .e => .bit1E
  | .o1, .reg .h => .bit1H
  | .o1, .reg .l => .bit1L
  | .o1, .memHl => .bit1MemHl
  | .o1, .reg .a => .bit1A
  | .o2, .reg .b => .bit2B
  | .o2, .reg .c => .bit2C
  | .o2, .reg .d => .bit2D
  | .o2, .reg .e => .bit2E
  | .o2, .reg .h => .bit2H
  | .o2, .reg .l => .bit2L
  | .o2, .memHl => .bit2MemHl
  | .o2, .reg .a => .bit2A
  | .o3, .reg .b => .bit3B
  | .o3, .reg .c => .bit3C
  | .o3, .reg .d => .bit3D
  | .o3, .reg .e => .bit3E
  | .o3, .reg .h => .bit3H
  | .o3, .reg .l => .bit3L
  | .o3, .memHl => .bit3MemHl
  | .o3, .reg .a => .bit3A
  | .o4, .reg .b => .bit4B
  | .o4, .reg .c => .bit4C
  | .o4, .reg .d => .bit4D
  | .o4, .reg .e => .bit4E
  | .o4, .reg .h => .bit4H
  | .o4, .reg .l => .bit4L
  | .o4, .memHl => .bit4MemHl
  | .o4, .reg .a => .bit4A
  | .o5, .reg .b => .bit5B
  | .o5, .reg .c => .bit5C
  | .o5, .reg .d => .bit5D
  | .o5, .reg .e => .bit5E
  | .o5, .reg .h => .bit5H
  | .o5, .reg .l => .bit5L
  | .o5, .memHl => .bit5MemHl
  | .o5, .reg .a => .bit5A
  | .o6, .reg .b => .bit6B
  | .o6, .reg .c => .bit6C
  | .o6, .reg .d => .bit6D
  | .o6, .reg .e => .bit6E
  | .o6, .reg .h => .bit6H
  | .o6, .reg .l => .bit6L
  | .o6, .memHl => .bit6MemHl
  | .o6, .reg .a => .bit6A
  | .o7, .reg .b => .bit7B
  | .o7, .reg .c => .bit7C
  | .o7, .reg .d => .bit7D
  | .o7, .reg .e => .bit7E
  | .o7, .reg .h => .bit7H
  | .o7, .reg .l => .bit7L
  | .o7, .memHl => .bit7MemHl
  | .o7, .reg .a => .bit7A

/-- `RES b,r8[z]` after the prefix (rules R99, R194). -/
def Instr.resR8 : Oct → R8 → Instr
  | .o0, .reg .b => .res0B
  | .o0, .reg .c => .res0C
  | .o0, .reg .d => .res0D
  | .o0, .reg .e => .res0E
  | .o0, .reg .h => .res0H
  | .o0, .reg .l => .res0L
  | .o0, .memHl => .res0MemHl
  | .o0, .reg .a => .res0A
  | .o1, .reg .b => .res1B
  | .o1, .reg .c => .res1C
  | .o1, .reg .d => .res1D
  | .o1, .reg .e => .res1E
  | .o1, .reg .h => .res1H
  | .o1, .reg .l => .res1L
  | .o1, .memHl => .res1MemHl
  | .o1, .reg .a => .res1A
  | .o2, .reg .b => .res2B
  | .o2, .reg .c => .res2C
  | .o2, .reg .d => .res2D
  | .o2, .reg .e => .res2E
  | .o2, .reg .h => .res2H
  | .o2, .reg .l => .res2L
  | .o2, .memHl => .res2MemHl
  | .o2, .reg .a => .res2A
  | .o3, .reg .b => .res3B
  | .o3, .reg .c => .res3C
  | .o3, .reg .d => .res3D
  | .o3, .reg .e => .res3E
  | .o3, .reg .h => .res3H
  | .o3, .reg .l => .res3L
  | .o3, .memHl => .res3MemHl
  | .o3, .reg .a => .res3A
  | .o4, .reg .b => .res4B
  | .o4, .reg .c => .res4C
  | .o4, .reg .d => .res4D
  | .o4, .reg .e => .res4E
  | .o4, .reg .h => .res4H
  | .o4, .reg .l => .res4L
  | .o4, .memHl => .res4MemHl
  | .o4, .reg .a => .res4A
  | .o5, .reg .b => .res5B
  | .o5, .reg .c => .res5C
  | .o5, .reg .d => .res5D
  | .o5, .reg .e => .res5E
  | .o5, .reg .h => .res5H
  | .o5, .reg .l => .res5L
  | .o5, .memHl => .res5MemHl
  | .o5, .reg .a => .res5A
  | .o6, .reg .b => .res6B
  | .o6, .reg .c => .res6C
  | .o6, .reg .d => .res6D
  | .o6, .reg .e => .res6E
  | .o6, .reg .h => .res6H
  | .o6, .reg .l => .res6L
  | .o6, .memHl => .res6MemHl
  | .o6, .reg .a => .res6A
  | .o7, .reg .b => .res7B
  | .o7, .reg .c => .res7C
  | .o7, .reg .d => .res7D
  | .o7, .reg .e => .res7E
  | .o7, .reg .h => .res7H
  | .o7, .reg .l => .res7L
  | .o7, .memHl => .res7MemHl
  | .o7, .reg .a => .res7A

/-- `SET b,r8[z]` after the prefix (rules R99, R195). -/
def Instr.setR8 : Oct → R8 → Instr
  | .o0, .reg .b => .set0B
  | .o0, .reg .c => .set0C
  | .o0, .reg .d => .set0D
  | .o0, .reg .e => .set0E
  | .o0, .reg .h => .set0H
  | .o0, .reg .l => .set0L
  | .o0, .memHl => .set0MemHl
  | .o0, .reg .a => .set0A
  | .o1, .reg .b => .set1B
  | .o1, .reg .c => .set1C
  | .o1, .reg .d => .set1D
  | .o1, .reg .e => .set1E
  | .o1, .reg .h => .set1H
  | .o1, .reg .l => .set1L
  | .o1, .memHl => .set1MemHl
  | .o1, .reg .a => .set1A
  | .o2, .reg .b => .set2B
  | .o2, .reg .c => .set2C
  | .o2, .reg .d => .set2D
  | .o2, .reg .e => .set2E
  | .o2, .reg .h => .set2H
  | .o2, .reg .l => .set2L
  | .o2, .memHl => .set2MemHl
  | .o2, .reg .a => .set2A
  | .o3, .reg .b => .set3B
  | .o3, .reg .c => .set3C
  | .o3, .reg .d => .set3D
  | .o3, .reg .e => .set3E
  | .o3, .reg .h => .set3H
  | .o3, .reg .l => .set3L
  | .o3, .memHl => .set3MemHl
  | .o3, .reg .a => .set3A
  | .o4, .reg .b => .set4B
  | .o4, .reg .c => .set4C
  | .o4, .reg .d => .set4D
  | .o4, .reg .e => .set4E
  | .o4, .reg .h => .set4H
  | .o4, .reg .l => .set4L
  | .o4, .memHl => .set4MemHl
  | .o4, .reg .a => .set4A
  | .o5, .reg .b => .set5B
  | .o5, .reg .c => .set5C
  | .o5, .reg .d => .set5D
  | .o5, .reg .e => .set5E
  | .o5, .reg .h => .set5H
  | .o5, .reg .l => .set5L
  | .o5, .memHl => .set5MemHl
  | .o5, .reg .a => .set5A
  | .o6, .reg .b => .set6B
  | .o6, .reg .c => .set6C
  | .o6, .reg .d => .set6D
  | .o6, .reg .e => .set6E
  | .o6, .reg .h => .set6H
  | .o6, .reg .l => .set6L
  | .o6, .memHl => .set6MemHl
  | .o6, .reg .a => .set6A
  | .o7, .reg .b => .set7B
  | .o7, .reg .c => .set7C
  | .o7, .reg .d => .set7D
  | .o7, .reg .e => .set7E
  | .o7, .reg .h => .set7H
  | .o7, .reg .l => .set7L
  | .o7, .memHl => .set7MemHl
  | .o7, .reg .a => .set7A

/-! ## The numbers of the fields, for the encodings of the instruction rules -/

/-- The number of a 3-bit field as a byte. -/
def Oct.code (t : Oct) : Byte := BitVec.ofNat 8 t.toNat

/-- The register code (rule R92). -/
def Reg.code : Reg → Byte
  | .b => 0 | .c => 1 | .d => 2 | .e => 3 | .h => 4 | .l => 5 | .a => 7

/-- The register code, 110 for (HL) (rule R92). -/
def R8.code : R8 → Byte
  | .reg r => r.code
  | .memHl => 6

/-- The pair code (rule R93). -/
def RR.code : RR → Byte
  | .bc => 0 | .de => 1 | .hl => 2 | .sp => 3

/-- The pair code (rule R93). -/
def QQ.code : QQ → Byte
  | .bc => 0 | .de => 1 | .hl => 2 | .af => 3

/-- The condition code (rule R94). -/
def Cond.code : Cond → Byte
  | .nz => 0 | .z => 1 | .nc => 2 | .c => 3

/-- The ALU selector (rule R96). -/
def AluOp.code : AluOp → Byte
  | .add => 0 | .adc => 1 | .sub => 2 | .sbc => 3 | .and => 4 | .xor => 5 | .or => 6 | .cp => 7

/-- The rotate and shift selector (rule R96). -/
def RotOp.code : RotOp → Byte
  | .rlc => 0 | .rrc => 1 | .rl => 2 | .rr => 3 | .sla => 4 | .sra => 5 | .swap => 6 | .srl => 7

/-- The condition a conditional transfer tests (rules R200, R202, R205, R207, R209). -/
def Instr.cond : Instr → Option Cond
  | .jrNzE8 _ | .jpNzA16 _ | .callNzA16 _ | .retNz => some .nz
  | .jrZE8 _ | .jpZA16 _ | .callZA16 _ | .retZ => some .z
  | .jrNcE8 _ | .jpNcA16 _ | .callNcA16 _ | .retNc => some .nc
  | .jrCE8 _ | .jpCA16 _ | .callCA16 _ | .retC => some .c
  | _ => none

/-! ## The decoder -/

/-- `CB_TABLE[sub]` (rule R99): every second byte after the 0xCB byte names an instruction. -/
def decodeCb (sub : Byte) : Instr :=
  match fieldX sub with
  | .q0 => .rotR8 (fieldY sub).rotOp (fieldZ sub).r8
  | .q1 => .bitR8 (fieldY sub) (fieldZ sub).r8
  | .q2 => .resR8 (fieldY sub) (fieldZ sub).r8
  | .q3 => .setR8 (fieldY sub) (fieldZ sub).r8

/-- `x = 0` of rule R98, with `n8` the byte and `n16` the word after the opcode. -/
def decodeX0 (y z : Oct) (n8 : Byte) (n16 : Word) : Instr :=
  match z with
  | .o0 =>
    match y with
    | .o0 => .nop
    | .o1 => .ldMemA16Sp n16
    | .o2 => .stop n8
    | .o3 => .jrE8 n8
    | .o4 => .jrCc .nz n8
    | .o5 => .jrCc .z n8
    | .o6 => .jrCc .nc n8
    | .o7 => .jrCc .c n8
  | .o1 =>
    match y with
    | .o0 => .ldRrD16 .bc n16
    | .o1 => .addHlRr .bc
    | .o2 => .ldRrD16 .de n16
    | .o3 => .addHlRr .de
    | .o4 => .ldRrD16 .hl n16
    | .o5 => .addHlRr .hl
    | .o6 => .ldRrD16 .sp n16
    | .o7 => .addHlRr .sp
  | .o2 =>
    match y with
    | .o0 => .ldMemBcA
    | .o1 => .ldAMemBc
    | .o2 => .ldMemDeA
    | .o3 => .ldAMemDe
    | .o4 => .ldMemHlIncA
    | .o5 => .ldAMemHlInc
    | .o6 => .ldMemHlDecA
    | .o7 => .ldAMemHlDec
  | .o3 =>
    match y with
    | .o0 => .incRr .bc
    | .o1 => .decRr .bc
    | .o2 => .incRr .de
    | .o3 => .decRr .de
    | .o4 => .incRr .hl
    | .o5 => .decRr .hl
    | .o6 => .incRr .sp
    | .o7 => .decRr .sp
  | .o4 => .incR8 y.r8
  | .o5 => .decR8 y.r8
  | .o6 => .ldR8D8 y.r8 n8
  | .o7 =>
    match y with
    | .o0 => .rlca
    | .o1 => .rrca
    | .o2 => .rla
    | .o3 => .rra
    | .o4 => .daa
    | .o5 => .cpl
    | .o6 => .scf
    | .o7 => .ccf

/-- `x = 3` of rule R98; the eleven bytes of rule R100 are the lines marked (none) there. -/
def decodeX3 (y z : Oct) (n8 : Byte) (n16 : Word) : Instr :=
  match z with
  | .o0 =>
    match y with
    | .o0 => .retCc .nz
    | .o1 => .retCc .z
    | .o2 => .retCc .nc
    | .o3 => .retCc .c
    | .o4 => .ldhMemA8A n8
    | .o5 => .addSpE8 n8
    | .o6 => .ldhAMemA8 n8
    | .o7 => .ldHlSpE8 n8
  | .o1 =>
    match y with
    | .o0 => .popQq .bc
    | .o1 => .ret
    | .o2 => .popQq .de
    | .o3 => .reti
    | .o4 => .popQq .hl
    | .o5 => .jpHl
    | .o6 => .popQq .af
    | .o7 => .ldSpHl
  | .o2 =>
    match y with
    | .o0 => .jpCc .nz n16
    | .o1 => .jpCc .z n16
    | .o2 => .jpCc .nc n16
    | .o3 => .jpCc .c n16
    | .o4 => .ldMemCA
    | .o5 => .ldMemA16A n16
    | .o6 => .ldAMemC
    | .o7 => .ldAMemA16 n16
  | .o3 =>
    match y with
    | .o0 => .jpA16 n16
    | .o1 => decodeCb n8
    | .o2 => .unrecognizedD3
    | .o3 => .unrecognizedDB
    | .o4 => .unrecognizedE3
    | .o5 => .unrecognizedEB
    | .o6 => .di
    | .o7 => .ei
  | .o4 =>
    match y with
    | .o0 => .callCc .nz n16
    | .o1 => .callCc .z n16
    | .o2 => .callCc .nc n16
    | .o3 => .callCc .c n16
    | .o4 => .unrecognizedE4
    | .o5 => .unrecognizedEC
    | .o6 => .unrecognizedF4
    | .o7 => .unrecognizedFC
  | .o5 =>
    match y with
    | .o0 => .pushQq .bc
    | .o1 => .callA16 n16
    | .o2 => .pushQq .de
    | .o3 => .unrecognizedDD
    | .o4 => .pushQq .hl
    | .o5 => .unrecognizedED
    | .o6 => .pushQq .af
    | .o7 => .unrecognizedFD
  | .o6 => .aluD8 y.aluOp n8
  | .o7 => .rst y

/-- `TABLE[op]` (rules R98, R101): the instruction whose first byte is `op`, with `n1` and `n2` the two bytes after it, of
which it takes as many as its length calls for. Total: the table has no gap, and its cell of the 0xCB byte opens
`CB_TABLE` as rule R98's grid has it. -/
def decodeOp (op n1 n2 : Byte) : Instr :=
  match fieldX op with
  | .q0 => decodeX0 (fieldY op) (fieldZ op) n1 (mkWord n2 n1)
  | .q1 => .ldR8R8 (fieldY op).r8 (fieldZ op).r8
  | .q2 => .aluR8 (fieldY op).aluOp (fieldZ op).r8
  | .q3 => decodeX3 (fieldY op) (fieldZ op) n1 (mkWord n2 n1)

/-- `TABLE[op].length` (rules R90, R98): the first byte alone tells the length. -/
def lengthOf (op : Byte) : Len :=
  match fieldX op, fieldZ op, fieldY op with
  | .q0, .o0, .o0 => .one
  | .q0, .o0, .o1 => .three
  | .q0, .o0, _ => .two
  | .q0, .o1, .o0 => .three
  | .q0, .o1, .o2 => .three
  | .q0, .o1, .o4 => .three
  | .q0, .o1, .o6 => .three
  | .q0, .o6, _ => .two
  | .q3, .o0, .o4 => .two
  | .q3, .o0, .o5 => .two
  | .q3, .o0, .o6 => .two
  | .q3, .o0, .o7 => .two
  | .q3, .o2, .o4 => .one
  | .q3, .o2, .o6 => .one
  | .q3, .o2, _ => .three
  | .q3, .o3, .o0 => .three
  | .q3, .o3, .o1 => .two
  | .q3, .o4, .o0 => .three
  | .q3, .o4, .o1 => .three
  | .q3, .o4, .o2 => .three
  | .q3, .o4, .o3 => .three
  | .q3, .o5, .o1 => .three
  | .q3, .o6, _ => .two
  | _, _, _ => .one

/-- `FetchDecode`'s choice of table (rules R90, R97): `CB_TABLE` when the first byte is `PREFIX`, else `TABLE`. -/
def decodeOpWith (pfx op n1 n2 : Byte) : Instr := if op = pfx then decodeCb n1 else decodeOp op n1 n2

/-- `TABLE[op].length`, and 2 when the first byte is `PREFIX` (rule R90). -/
def lengthOfWith (pfx op : Byte) : Len := if op = pfx then .two else lengthOf op

/-- Why a byte string is no instruction: it ends before the instruction does. No byte value is rejected (rule R101). -/
inductive DecodeError where
  | noBytes
  | missingOperandByte
  deriving DecidableEq, Repr

/-- Decoding a string of bytes in address order, `PREFIX` being `pfx`: the instruction and the bytes after it (rule
R90). -/
def decodeWith (pfx : Byte) (bs : List Byte) : Except DecodeError (Instr × List Byte) :=
  match bs with
  | [] => .error .noBytes
  | op :: rest =>
    match lengthOfWith pfx op, rest with
    | .one, rest => .ok (decodeOpWith pfx op 0 0, rest)
    | .two, n1 :: rest => .ok (decodeOpWith pfx op n1 0, rest)
    | .three, n1 :: n2 :: rest => .ok (decodeOpWith pfx op n1 n2, rest)
    | _, _ => .error .missingOperandByte

/-- Decoding with `PREFIX` at the value of rule R97, the one of every well-formed configuration. -/
def decode (bs : List Byte) : Except DecodeError (Instr × List Byte) := decodeWith 0xCB bs

/-! ## The encoder -/

/-- The bytes of an instruction in address order, from the opcode values of rules R98 and R99 and the formats of rule
R91 (a 16-bit operand low byte first, rule R63). -/
def encode (i : Instr) : List Byte :=
  match i with
  | .nop => [0x00]
  | .ldBcD16 d16 => [0x01, loByte d16, hiByte d16]
  | .ldMemBcA => [0x02]
  | .incBc => [0x03]
  | .incB => [0x04]
  | .decB => [0x05]
  | .ldBD8 d8 => [0x06, d8]
  | .rlca => [0x07]
  | .ldMemA16Sp a16 => [0x08, loByte a16, hiByte a16]
  | .addHlBc => [0x09]
  | .ldAMemBc => [0x0A]
  | .decBc => [0x0B]
  | .incC => [0x0C]
  | .decC => [0x0D]
  | .ldCD8 d8 => [0x0E, d8]
  | .rrca => [0x0F]
  | .stop pad => [0x10, pad]
  | .ldDeD16 d16 => [0x11, loByte d16, hiByte d16]
  | .ldMemDeA => [0x12]
  | .incDe => [0x13]
  | .incD => [0x14]
  | .decD => [0x15]
  | .ldDD8 d8 => [0x16, d8]
  | .rla => [0x17]
  | .jrE8 e8 => [0x18, e8]
  | .addHlDe => [0x19]
  | .ldAMemDe => [0x1A]
  | .decDe => [0x1B]
  | .incE => [0x1C]
  | .decE => [0x1D]
  | .ldED8 d8 => [0x1E, d8]
  | .rra => [0x1F]
  | .jrNzE8 e8 => [0x20, e8]
  | .ldHlD16 d16 => [0x21, loByte d16, hiByte d16]
  | .ldMemHlIncA => [0x22]
  | .incHl => [0x23]
  | .incH => [0x24]
  | .decH => [0x25]
  | .ldHD8 d8 => [0x26, d8]
  | .daa => [0x27]
  | .jrZE8 e8 => [0x28, e8]
  | .addHlHl => [0x29]
  | .ldAMemHlInc => [0x2A]
  | .decHl => [0x2B]
  | .incL => [0x2C]
  | .decL => [0x2D]
  | .ldLD8 d8 => [0x2E, d8]
  | .cpl => [0x2F]
  | .jrNcE8 e8 => [0x30, e8]
  | .ldSpD16 d16 => [0x31, loByte d16, hiByte d16]
  | .ldMemHlDecA => [0x32]
  | .incSp => [0x33]
  | .incMemHl => [0x34]
  | .decMemHl => [0x35]
  | .ldMemHlD8 d8 => [0x36, d8]
  | .scf => [0x37]
  | .jrCE8 e8 => [0x38, e8]
  | .addHlSp => [0x39]
  | .ldAMemHlDec => [0x3A]
  | .decSp => [0x3B]
  | .incA => [0x3C]
  | .decA => [0x3D]
  | .ldAD8 d8 => [0x3E, d8]
  | .ccf => [0x3F]
  | .ldBB => [0x40]
  | .ldBC => [0x41]
  | .ldBD => [0x42]
  | .ldBE => [0x43]
  | .ldBH => [0x44]
  | .ldBL => [0x45]
  | .ldBMemHl => [0x46]
  | .ldBA => [0x47]
  | .ldCB => [0x48]
  | .ldCC => [0x49]
  | .ldCD => [0x4A]
  | .ldCE => [0x4B]
  | .ldCH => [0x4C]
  | .ldCL => [0x4D]
  | .ldCMemHl => [0x4E]
  | .ldCA => [0x4F]
  | .ldDB => [0x50]
  | .ldDC => [0x51]
  | .ldDD => [0x52]
  | .ldDE => [0x53]
  | .ldDH => [0x54]
  | .ldDL => [0x55]
  | .ldDMemHl => [0x56]
  | .ldDA => [0x57]
  | .ldEB => [0x58]
  | .ldEC => [0x59]
  | .ldED => [0x5A]
  | .ldEE => [0x5B]
  | .ldEH => [0x5C]
  | .ldEL => [0x5D]
  | .ldEMemHl => [0x5E]
  | .ldEA => [0x5F]
  | .ldHB => [0x60]
  | .ldHC => [0x61]
  | .ldHD => [0x62]
  | .ldHE => [0x63]
  | .ldHH => [0x64]
  | .ldHL => [0x65]
  | .ldHMemHl => [0x66]
  | .ldHA => [0x67]
  | .ldLB => [0x68]
  | .ldLC => [0x69]
  | .ldLD => [0x6A]
  | .ldLE => [0x6B]
  | .ldLH => [0x6C]
  | .ldLL => [0x6D]
  | .ldLMemHl => [0x6E]
  | .ldLA => [0x6F]
  | .ldMemHlB => [0x70]
  | .ldMemHlC => [0x71]
  | .ldMemHlD => [0x72]
  | .ldMemHlE => [0x73]
  | .ldMemHlH => [0x74]
  | .ldMemHlL => [0x75]
  | .halt => [0x76]
  | .ldMemHlA => [0x77]
  | .ldAB => [0x78]
  | .ldAC => [0x79]
  | .ldAD => [0x7A]
  | .ldAE => [0x7B]
  | .ldAH => [0x7C]
  | .ldAL => [0x7D]
  | .ldAMemHl => [0x7E]
  | .ldAA => [0x7F]
  | .addAB => [0x80]
  | .addAC => [0x81]
  | .addAD => [0x82]
  | .addAE => [0x83]
  | .addAH => [0x84]
  | .addAL => [0x85]
  | .addAMemHl => [0x86]
  | .addAA => [0x87]
  | .adcAB => [0x88]
  | .adcAC => [0x89]
  | .adcAD => [0x8A]
  | .adcAE => [0x8B]
  | .adcAH => [0x8C]
  | .adcAL => [0x8D]
  | .adcAMemHl => [0x8E]
  | .adcAA => [0x8F]
  | .subB => [0x90]
  | .subC => [0x91]
  | .subD => [0x92]
  | .subE => [0x93]
  | .subH => [0x94]
  | .subL => [0x95]
  | .subMemHl => [0x96]
  | .subA => [0x97]
  | .sbcAB => [0x98]
  | .sbcAC => [0x99]
  | .sbcAD => [0x9A]
  | .sbcAE => [0x9B]
  | .sbcAH => [0x9C]
  | .sbcAL => [0x9D]
  | .sbcAMemHl => [0x9E]
  | .sbcAA => [0x9F]
  | .andB => [0xA0]
  | .andC => [0xA1]
  | .andD => [0xA2]
  | .andE => [0xA3]
  | .andH => [0xA4]
  | .andL => [0xA5]
  | .andMemHl => [0xA6]
  | .andA => [0xA7]
  | .xorB => [0xA8]
  | .xorC => [0xA9]
  | .xorD => [0xAA]
  | .xorE => [0xAB]
  | .xorH => [0xAC]
  | .xorL => [0xAD]
  | .xorMemHl => [0xAE]
  | .xorA => [0xAF]
  | .orB => [0xB0]
  | .orC => [0xB1]
  | .orD => [0xB2]
  | .orE => [0xB3]
  | .orH => [0xB4]
  | .orL => [0xB5]
  | .orMemHl => [0xB6]
  | .orA => [0xB7]
  | .cpB => [0xB8]
  | .cpC => [0xB9]
  | .cpD => [0xBA]
  | .cpE => [0xBB]
  | .cpH => [0xBC]
  | .cpL => [0xBD]
  | .cpMemHl => [0xBE]
  | .cpA => [0xBF]
  | .retNz => [0xC0]
  | .popBc => [0xC1]
  | .jpNzA16 a16 => [0xC2, loByte a16, hiByte a16]
  | .jpA16 a16 => [0xC3, loByte a16, hiByte a16]
  | .callNzA16 a16 => [0xC4, loByte a16, hiByte a16]
  | .pushBc => [0xC5]
  | .addAD8 d8 => [0xC6, d8]
  | .rst00 => [0xC7]
  | .retZ => [0xC8]
  | .ret => [0xC9]
  | .jpZA16 a16 => [0xCA, loByte a16, hiByte a16]
  | .callZA16 a16 => [0xCC, loByte a16, hiByte a16]
  | .callA16 a16 => [0xCD, loByte a16, hiByte a16]
  | .adcAD8 d8 => [0xCE, d8]
  | .rst08 => [0xCF]
  | .retNc => [0xD0]
  | .popDe => [0xD1]
  | .jpNcA16 a16 => [0xD2, loByte a16, hiByte a16]
  | .unrecognizedD3 => [0xD3]
  | .callNcA16 a16 => [0xD4, loByte a16, hiByte a16]
  | .pushDe => [0xD5]
  | .subD8 d8 => [0xD6, d8]
  | .rst10 => [0xD7]
  | .retC => [0xD8]
  | .reti => [0xD9]
  | .jpCA16 a16 => [0xDA, loByte a16, hiByte a16]
  | .unrecognizedDB => [0xDB]
  | .callCA16 a16 => [0xDC, loByte a16, hiByte a16]
  | .unrecognizedDD => [0xDD]
  | .sbcAD8 d8 => [0xDE, d8]
  | .rst18 => [0xDF]
  | .ldhMemA8A a8 => [0xE0, a8]
  | .popHl => [0xE1]
  | .ldMemCA => [0xE2]
  | .unrecognizedE3 => [0xE3]
  | .unrecognizedE4 => [0xE4]
  | .pushHl => [0xE5]
  | .andD8 d8 => [0xE6, d8]
  | .rst20 => [0xE7]
  | .addSpE8 e8 => [0xE8, e8]
  | .jpHl => [0xE9]
  | .ldMemA16A a16 => [0xEA, loByte a16, hiByte a16]
  | .unrecognizedEB => [0xEB]
  | .unrecognizedEC => [0xEC]
  | .unrecognizedED => [0xED]
  | .xorD8 d8 => [0xEE, d8]
  | .rst28 => [0xEF]
  | .ldhAMemA8 a8 => [0xF0, a8]
  | .popAf => [0xF1]
  | .ldAMemC => [0xF2]
  | .di => [0xF3]
  | .unrecognizedF4 => [0xF4]
  | .pushAf => [0xF5]
  | .orD8 d8 => [0xF6, d8]
  | .rst30 => [0xF7]
  | .ldHlSpE8 e8 => [0xF8, e8]
  | .ldSpHl => [0xF9]
  | .ldAMemA16 a16 => [0xFA, loByte a16, hiByte a16]
  | .ei => [0xFB]
  | .unrecognizedFC => [0xFC]
  | .unrecognizedFD => [0xFD]
  | .cpD8 d8 => [0xFE, d8]
  | .rst38 => [0xFF]
  | .rlcB => [0xCB, 0x00]
  | .rlcC => [0xCB, 0x01]
  | .rlcD => [0xCB, 0x02]
  | .rlcE => [0xCB, 0x03]
  | .rlcH => [0xCB, 0x04]
  | .rlcL => [0xCB, 0x05]
  | .rlcMemHl => [0xCB, 0x06]
  | .rlcA => [0xCB, 0x07]
  | .rrcB => [0xCB, 0x08]
  | .rrcC => [0xCB, 0x09]
  | .rrcD => [0xCB, 0x0A]
  | .rrcE => [0xCB, 0x0B]
  | .rrcH => [0xCB, 0x0C]
  | .rrcL => [0xCB, 0x0D]
  | .rrcMemHl => [0xCB, 0x0E]
  | .rrcA => [0xCB, 0x0F]
  | .rlB => [0xCB, 0x10]
  | .rlC => [0xCB, 0x11]
  | .rlD => [0xCB, 0x12]
  | .rlE => [0xCB, 0x13]
  | .rlH => [0xCB, 0x14]
  | .rlL => [0xCB, 0x15]
  | .rlMemHl => [0xCB, 0x16]
  | .rlA => [0xCB, 0x17]
  | .rrB => [0xCB, 0x18]
  | .rrC => [0xCB, 0x19]
  | .rrD => [0xCB, 0x1A]
  | .rrE => [0xCB, 0x1B]
  | .rrH => [0xCB, 0x1C]
  | .rrL => [0xCB, 0x1D]
  | .rrMemHl => [0xCB, 0x1E]
  | .rrA => [0xCB, 0x1F]
  | .slaB => [0xCB, 0x20]
  | .slaC => [0xCB, 0x21]
  | .slaD => [0xCB, 0x22]
  | .slaE => [0xCB, 0x23]
  | .slaH => [0xCB, 0x24]
  | .slaL => [0xCB, 0x25]
  | .slaMemHl => [0xCB, 0x26]
  | .slaA => [0xCB, 0x27]
  | .sraB => [0xCB, 0x28]
  | .sraC => [0xCB, 0x29]
  | .sraD => [0xCB, 0x2A]
  | .sraE => [0xCB, 0x2B]
  | .sraH => [0xCB, 0x2C]
  | .sraL => [0xCB, 0x2D]
  | .sraMemHl => [0xCB, 0x2E]
  | .sraA => [0xCB, 0x2F]
  | .swapB => [0xCB, 0x30]
  | .swapC => [0xCB, 0x31]
  | .swapD => [0xCB, 0x32]
  | .swapE => [0xCB, 0x33]
  | .swapH => [0xCB, 0x34]
  | .swapL => [0xCB, 0x35]
  | .swapMemHl => [0xCB, 0x36]
  | .swapA => [0xCB, 0x37]
  | .srlB => [0xCB, 0x38]
  | .srlC => [0xCB, 0x39]
  | .srlD => [0xCB, 0x3A]
  | .srlE => [0xCB, 0x3B]
  | .srlH => [0xCB, 0x3C]
  | .srlL => [0xCB, 0x3D]
  | .srlMemHl => [0xCB, 0x3E]
  | .srlA => [0xCB, 0x3F]
  | .bit0B => [0xCB, 0x40]
  | .bit0C => [0xCB, 0x41]
  | .bit0D => [0xCB, 0x42]
  | .bit0E => [0xCB, 0x43]
  | .bit0H => [0xCB, 0x44]
  | .bit0L => [0xCB, 0x45]
  | .bit0MemHl => [0xCB, 0x46]
  | .bit0A => [0xCB, 0x47]
  | .bit1B => [0xCB, 0x48]
  | .bit1C => [0xCB, 0x49]
  | .bit1D => [0xCB, 0x4A]
  | .bit1E => [0xCB, 0x4B]
  | .bit1H => [0xCB, 0x4C]
  | .bit1L => [0xCB, 0x4D]
  | .bit1MemHl => [0xCB, 0x4E]
  | .bit1A => [0xCB, 0x4F]
  | .bit2B => [0xCB, 0x50]
  | .bit2C => [0xCB, 0x51]
  | .bit2D => [0xCB, 0x52]
  | .bit2E => [0xCB, 0x53]
  | .bit2H => [0xCB, 0x54]
  | .bit2L => [0xCB, 0x55]
  | .bit2MemHl => [0xCB, 0x56]
  | .bit2A => [0xCB, 0x57]
  | .bit3B => [0xCB, 0x58]
  | .bit3C => [0xCB, 0x59]
  | .bit3D => [0xCB, 0x5A]
  | .bit3E => [0xCB, 0x5B]
  | .bit3H => [0xCB, 0x5C]
  | .bit3L => [0xCB, 0x5D]
  | .bit3MemHl => [0xCB, 0x5E]
  | .bit3A => [0xCB, 0x5F]
  | .bit4B => [0xCB, 0x60]
  | .bit4C => [0xCB, 0x61]
  | .bit4D => [0xCB, 0x62]
  | .bit4E => [0xCB, 0x63]
  | .bit4H => [0xCB, 0x64]
  | .bit4L => [0xCB, 0x65]
  | .bit4MemHl => [0xCB, 0x66]
  | .bit4A => [0xCB, 0x67]
  | .bit5B => [0xCB, 0x68]
  | .bit5C => [0xCB, 0x69]
  | .bit5D => [0xCB, 0x6A]
  | .bit5E => [0xCB, 0x6B]
  | .bit5H => [0xCB, 0x6C]
  | .bit5L => [0xCB, 0x6D]
  | .bit5MemHl => [0xCB, 0x6E]
  | .bit5A => [0xCB, 0x6F]
  | .bit6B => [0xCB, 0x70]
  | .bit6C => [0xCB, 0x71]
  | .bit6D => [0xCB, 0x72]
  | .bit6E => [0xCB, 0x73]
  | .bit6H => [0xCB, 0x74]
  | .bit6L => [0xCB, 0x75]
  | .bit6MemHl => [0xCB, 0x76]
  | .bit6A => [0xCB, 0x77]
  | .bit7B => [0xCB, 0x78]
  | .bit7C => [0xCB, 0x79]
  | .bit7D => [0xCB, 0x7A]
  | .bit7E => [0xCB, 0x7B]
  | .bit7H => [0xCB, 0x7C]
  | .bit7L => [0xCB, 0x7D]
  | .bit7MemHl => [0xCB, 0x7E]
  | .bit7A => [0xCB, 0x7F]
  | .res0B => [0xCB, 0x80]
  | .res0C => [0xCB, 0x81]
  | .res0D => [0xCB, 0x82]
  | .res0E => [0xCB, 0x83]
  | .res0H => [0xCB, 0x84]
  | .res0L => [0xCB, 0x85]
  | .res0MemHl => [0xCB, 0x86]
  | .res0A => [0xCB, 0x87]
  | .res1B => [0xCB, 0x88]
  | .res1C => [0xCB, 0x89]
  | .res1D => [0xCB, 0x8A]
  | .res1E => [0xCB, 0x8B]
  | .res1H => [0xCB, 0x8C]
  | .res1L => [0xCB, 0x8D]
  | .res1MemHl => [0xCB, 0x8E]
  | .res1A => [0xCB, 0x8F]
  | .res2B => [0xCB, 0x90]
  | .res2C => [0xCB, 0x91]
  | .res2D => [0xCB, 0x92]
  | .res2E => [0xCB, 0x93]
  | .res2H => [0xCB, 0x94]
  | .res2L => [0xCB, 0x95]
  | .res2MemHl => [0xCB, 0x96]
  | .res2A => [0xCB, 0x97]
  | .res3B => [0xCB, 0x98]
  | .res3C => [0xCB, 0x99]
  | .res3D => [0xCB, 0x9A]
  | .res3E => [0xCB, 0x9B]
  | .res3H => [0xCB, 0x9C]
  | .res3L => [0xCB, 0x9D]
  | .res3MemHl => [0xCB, 0x9E]
  | .res3A => [0xCB, 0x9F]
  | .res4B => [0xCB, 0xA0]
  | .res4C => [0xCB, 0xA1]
  | .res4D => [0xCB, 0xA2]
  | .res4E => [0xCB, 0xA3]
  | .res4H => [0xCB, 0xA4]
  | .res4L => [0xCB, 0xA5]
  | .res4MemHl => [0xCB, 0xA6]
  | .res4A => [0xCB, 0xA7]
  | .res5B => [0xCB, 0xA8]
  | .res5C => [0xCB, 0xA9]
  | .res5D => [0xCB, 0xAA]
  | .res5E => [0xCB, 0xAB]
  | .res5H => [0xCB, 0xAC]
  | .res5L => [0xCB, 0xAD]
  | .res5MemHl => [0xCB, 0xAE]
  | .res5A => [0xCB, 0xAF]
  | .res6B => [0xCB, 0xB0]
  | .res6C => [0xCB, 0xB1]
  | .res6D => [0xCB, 0xB2]
  | .res6E => [0xCB, 0xB3]
  | .res6H => [0xCB, 0xB4]
  | .res6L => [0xCB, 0xB5]
  | .res6MemHl => [0xCB, 0xB6]
  | .res6A => [0xCB, 0xB7]
  | .res7B => [0xCB, 0xB8]
  | .res7C => [0xCB, 0xB9]
  | .res7D => [0xCB, 0xBA]
  | .res7E => [0xCB, 0xBB]
  | .res7H => [0xCB, 0xBC]
  | .res7L => [0xCB, 0xBD]
  | .res7MemHl => [0xCB, 0xBE]
  | .res7A => [0xCB, 0xBF]
  | .set0B => [0xCB, 0xC0]
  | .set0C => [0xCB, 0xC1]
  | .set0D => [0xCB, 0xC2]
  | .set0E => [0xCB, 0xC3]
  | .set0H => [0xCB, 0xC4]
  | .set0L => [0xCB, 0xC5]
  | .set0MemHl => [0xCB, 0xC6]
  | .set0A => [0xCB, 0xC7]
  | .set1B => [0xCB, 0xC8]
  | .set1C => [0xCB, 0xC9]
  | .set1D => [0xCB, 0xCA]
  | .set1E => [0xCB, 0xCB]
  | .set1H => [0xCB, 0xCC]
  | .set1L => [0xCB, 0xCD]
  | .set1MemHl => [0xCB, 0xCE]
  | .set1A => [0xCB, 0xCF]
  | .set2B => [0xCB, 0xD0]
  | .set2C => [0xCB, 0xD1]
  | .set2D => [0xCB, 0xD2]
  | .set2E => [0xCB, 0xD3]
  | .set2H => [0xCB, 0xD4]
  | .set2L => [0xCB, 0xD5]
  | .set2MemHl => [0xCB, 0xD6]
  | .set2A => [0xCB, 0xD7]
  | .set3B => [0xCB, 0xD8]
  | .set3C => [0xCB, 0xD9]
  | .set3D => [0xCB, 0xDA]
  | .set3E => [0xCB, 0xDB]
  | .set3H => [0xCB, 0xDC]
  | .set3L => [0xCB, 0xDD]
  | .set3MemHl => [0xCB, 0xDE]
  | .set3A => [0xCB, 0xDF]
  | .set4B => [0xCB, 0xE0]
  | .set4C => [0xCB, 0xE1]
  | .set4D => [0xCB, 0xE2]
  | .set4E => [0xCB, 0xE3]
  | .set4H => [0xCB, 0xE4]
  | .set4L => [0xCB, 0xE5]
  | .set4MemHl => [0xCB, 0xE6]
  | .set4A => [0xCB, 0xE7]
  | .set5B => [0xCB, 0xE8]
  | .set5C => [0xCB, 0xE9]
  | .set5D => [0xCB, 0xEA]
  | .set5E => [0xCB, 0xEB]
  | .set5H => [0xCB, 0xEC]
  | .set5L => [0xCB, 0xED]
  | .set5MemHl => [0xCB, 0xEE]
  | .set5A => [0xCB, 0xEF]
  | .set6B => [0xCB, 0xF0]
  | .set6C => [0xCB, 0xF1]
  | .set6D => [0xCB, 0xF2]
  | .set6E => [0xCB, 0xF3]
  | .set6H => [0xCB, 0xF4]
  | .set6L => [0xCB, 0xF5]
  | .set6MemHl => [0xCB, 0xF6]
  | .set6A => [0xCB, 0xF7]
  | .set7B => [0xCB, 0xF8]
  | .set7C => [0xCB, 0xF9]
  | .set7D => [0xCB, 0xFA]
  | .set7E => [0xCB, 0xFB]
  | .set7H => [0xCB, 0xFC]
  | .set7L => [0xCB, 0xFD]
  | .set7MemHl => [0xCB, 0xFE]
  | .set7A => [0xCB, 0xFF]

/-- The length of an instruction in bytes (rules R91, R102). -/
def Instr.length (i : Instr) : Nat := (encode i).length

/-- The first byte of each of the eleven encodings that name no instruction (rule R100). -/
def unrecognizedBytes : List Byte :=
  [0xD3, 0xDB, 0xDD, 0xE3, 0xE4, 0xEB, 0xEC, 0xED, 0xF4, 0xFC, 0xFD]

/-- The eleven rows of rule R100. -/
def Instr.isUnrecognized : Instr → Bool
  | .unrecognizedD3 | .unrecognizedDB | .unrecognizedDD | .unrecognizedE3 | .unrecognizedE4 | .unrecognizedEB
  | .unrecognizedEC | .unrecognizedED | .unrecognizedF4 | .unrecognizedFC | .unrecognizedFD => true
  | _ => false

/-! ## The host's word form -/

/-- Byte `k` (in address order) of the instruction whose bits are `w` (rule R105); the bits from `nbits` on are 0. -/
def tableByte (nbits w k : Nat) : Byte := BitVec.ofNat 8 (w % 2 ^ nbits / 256 ^ k)

/-- The instruction the decoder reads from an instruction whose bits, numbered as rule R105 numbers them, are `w`. -/
def decodeTableWord (nbits w : Nat) : Option Instr :=
  match decode [tableByte nbits w 0, tableByte nbits w 1, tableByte nbits w 2] with
  | .ok (i, _) => some i
  | .error _ => none

end Sys2Proof
end

