-- ==== Sys2Proof/Machine/Cycles.lean ====
section
/-! DEFINITION. Machine/Cycles.lean: the cycle tables of rule R320, transcribed row by row from its grid, the extras of
rule R4's `CYC_TAKEN_EXTRA`, and the count of an instruction by that grid. The tables are the default values of the
parameters in `Config`; the machine reads its configuration. -/

namespace Sys2Proof.Machine

/-- Row `0x` of the grid: (condition false, condition true), equal where the grid has one number. -/
def cycRow0 : List (Nat × Nat) :=
  [(4, 4), (12, 12), (8, 8), (8, 8), (4, 4), (4, 4), (8, 8), (4, 4),
   (20, 20), (8, 8), (8, 8), (8, 8), (4, 4), (4, 4), (8, 8), (4, 4)]

/-- Row `1x` of the grid: (condition false, condition true), equal where the grid has one number. -/
def cycRow1 : List (Nat × Nat) :=
  [(4, 4), (12, 12), (8, 8), (8, 8), (4, 4), (4, 4), (8, 8), (4, 4),
   (12, 12), (8, 8), (8, 8), (8, 8), (4, 4), (4, 4), (8, 8), (4, 4)]

/-- Row `2x` of the grid: (condition false, condition true), equal where the grid has one number. -/
def cycRow2 : List (Nat × Nat) :=
  [(8, 12), (12, 12), (8, 8), (8, 8), (4, 4), (4, 4), (8, 8), (4, 4),
   (8, 12), (8, 8), (8, 8), (8, 8), (4, 4), (4, 4), (8, 8), (4, 4)]

/-- Row `3x` of the grid: (condition false, condition true), equal where the grid has one number. -/
def cycRow3 : List (Nat × Nat) :=
  [(8, 12), (12, 12), (8, 8), (8, 8), (12, 12), (12, 12), (12, 12), (4, 4),
   (8, 12), (8, 8), (8, 8), (8, 8), (4, 4), (4, 4), (8, 8), (4, 4)]

/-- Row `4x` of the grid: (condition false, condition true), equal where the grid has one number. -/
def cycRow4 : List (Nat × Nat) :=
  [(4, 4), (4, 4), (4, 4), (4, 4), (4, 4), (4, 4), (8, 8), (4, 4),
   (4, 4), (4, 4), (4, 4), (4, 4), (4, 4), (4, 4), (8, 8), (4, 4)]

/-- Row `5x` of the grid: (condition false, condition true), equal where the grid has one number. -/
def cycRow5 : List (Nat × Nat) :=
  [(4, 4), (4, 4), (4, 4), (4, 4), (4, 4), (4, 4), (8, 8), (4, 4),
   (4, 4), (4, 4), (4, 4), (4, 4), (4, 4), (4, 4), (8, 8), (4, 4)]

/-- Row `6x` of the grid: (condition false, condition true), equal where the grid has one number. -/
def cycRow6 : List (Nat × Nat) :=
  [(4, 4), (4, 4), (4, 4), (4, 4), (4, 4), (4, 4), (8, 8), (4, 4),
   (4, 4), (4, 4), (4, 4), (4, 4), (4, 4), (4, 4), (8, 8), (4, 4)]

/-- Row `7x` of the grid: (condition false, condition true), equal where the grid has one number. -/
def cycRow7 : List (Nat × Nat) :=
  [(8, 8), (8, 8), (8, 8), (8, 8), (8, 8), (8, 8), (4, 4), (8, 8),
   (4, 4), (4, 4), (4, 4), (4, 4), (4, 4), (4, 4), (8, 8), (4, 4)]

/-- Row `8x` of the grid: (condition false, condition true), equal where the grid has one number. -/
def cycRow8 : List (Nat × Nat) :=
  [(4, 4), (4, 4), (4, 4), (4, 4), (4, 4), (4, 4), (8, 8), (4, 4),
   (4, 4), (4, 4), (4, 4), (4, 4), (4, 4), (4, 4), (8, 8), (4, 4)]

/-- Row `9x` of the grid: (condition false, condition true), equal where the grid has one number. -/
def cycRow9 : List (Nat × Nat) :=
  [(4, 4), (4, 4), (4, 4), (4, 4), (4, 4), (4, 4), (8, 8), (4, 4),
   (4, 4), (4, 4), (4, 4), (4, 4), (4, 4), (4, 4), (8, 8), (4, 4)]

/-- Row `Ax` of the grid: (condition false, condition true), equal where the grid has one number. -/
def cycRowA : List (Nat × Nat) :=
  [(4, 4), (4, 4), (4, 4), (4, 4), (4, 4), (4, 4), (8, 8), (4, 4),
   (4, 4), (4, 4), (4, 4), (4, 4), (4, 4), (4, 4), (8, 8), (4, 4)]

/-- Row `Bx` of the grid: (condition false, condition true), equal where the grid has one number. -/
def cycRowB : List (Nat × Nat) :=
  [(4, 4), (4, 4), (4, 4), (4, 4), (4, 4), (4, 4), (8, 8), (4, 4),
   (4, 4), (4, 4), (4, 4), (4, 4), (4, 4), (4, 4), (8, 8), (4, 4)]

/-- Row `Cx` of the grid: (condition false, condition true), equal where the grid has one number. -/
def cycRowC : List (Nat × Nat) :=
  [(8, 20), (12, 12), (12, 16), (16, 16), (12, 24), (16, 16), (8, 8), (16, 16),
   (8, 20), (16, 16), (12, 16), (0, 0), (12, 24), (24, 24), (8, 8), (16, 16)]

/-- Row `Dx` of the grid: (condition false, condition true), equal where the grid has one number. -/
def cycRowD : List (Nat × Nat) :=
  [(8, 20), (12, 12), (12, 16), (4, 4), (12, 24), (16, 16), (8, 8), (16, 16),
   (8, 20), (16, 16), (12, 16), (4, 4), (12, 24), (4, 4), (8, 8), (16, 16)]

/-- Row `Ex` of the grid: (condition false, condition true), equal where the grid has one number. -/
def cycRowE : List (Nat × Nat) :=
  [(12, 12), (12, 12), (8, 8), (4, 4), (4, 4), (16, 16), (8, 8), (16, 16),
   (16, 16), (4, 4), (16, 16), (4, 4), (4, 4), (4, 4), (8, 8), (16, 16)]

/-- Row `Fx` of the grid: (condition false, condition true), equal where the grid has one number. -/
def cycRowF : List (Nat × Nat) :=
  [(12, 12), (12, 12), (8, 8), (4, 4), (4, 4), (16, 16), (8, 8), (16, 16),
   (12, 12), (8, 8), (16, 16), (4, 4), (4, 4), (4, 4), (8, 8), (16, 16)]

/-- The grid of rule R320 by high nibble, then low nibble: (condition false, condition true). The cell of the 0xCB byte is
not used. -/
def cycTable : List (List (Nat × Nat)) :=
  [cycRow0, cycRow1, cycRow2, cycRow3, cycRow4, cycRow5, cycRow6, cycRow7, cycRow8, cycRow9] ++
  [cycRowA, cycRowB, cycRowC, cycRowD, cycRowE, cycRowF]

/-- The entry of a byte in a table by high nibble, then low nibble; `d` where there is none. -/
def byteEntry {α : Type} (d : α) (t : List (List α)) (b : Byte) : α :=
  (t.getD (b.toNat / 16) []).getD (b.toNat % 16) d

/-- `CYC[op]` (rules R4, R320): the base counts. -/
def baseCounts : List (List Nat) := cycTable.map fun row => row.map Prod.fst

/-- `CYC_CB[sub]`, the prefix included (rule R320): 8, or with operand (HL) 12 for BIT and 16 otherwise. -/
def cbCount (sub : Nat) : Nat :=
  if sub % 8 = 6 then (if sub / 64 = 1 then 12 else 16) else 8

/-- `CYC_CB` (rules R4, R320). -/
def cbCounts : List (List Nat) :=
  (List.range 16).map fun h => (List.range 16).map fun l => cbCount (16 * h + l)

/-- `CYC_TAKEN_EXTRA` (rule R4): 4 for JR cc and JP cc, 12 for CALL cc and RET cc, by first byte. -/
def takenExtras : List (Nat × Nat) :=
  [(0x20, 4), (0x28, 4), (0x30, 4), (0x38, 4)] ++
  [(0xC0, 12), (0xC2, 4), (0xC4, 12), (0xC8, 12), (0xCA, 4), (0xCC, 12)] ++
  [(0xD0, 12), (0xD2, 4), (0xD4, 12), (0xD8, 12), (0xDA, 4), (0xDC, 12)]

/-- The counts of an instruction in the grid, by its bytes: (condition false, condition true). -/
def cycOf (i : Instr) : Nat × Nat :=
  match encode i with
  | op :: sub :: _ => if op = 0xCB then (cbCount sub.toNat, cbCount sub.toNat) else byteEntry (0, 0) cycTable op
  | [op] => byteEntry (0, 0) cycTable op
  | [] => (0, 0)

end Sys2Proof.Machine
end

