-- ==== Sys2Proof/Config.lean ====
section
/-! DEFINITION. Config.lean: the named parameters of rule R4 as plain data with their defaults, the values the document
fixes, and the one free value (the timer's registers). A `Config` stands in `State` as a field that no step changes, so a
statement about every state is a statement about every choice of the parameters. -/

namespace Sys2Proof

/-- A sparse array: keys strictly rising, no entry equal to what an unlisted key reads as (`Machine/Memory.lean`
gives the operations and the check). -/
abbrev Sparse (α : Type) := List (Nat × α)

/-- Bytes by address or by image offset. -/
abbrev Memory := List Host.Cell

/-- One entry of the pixel buffer: red, green, blue (rule R34). -/
structure Rgb where
  r : Byte
  g : Byte
  b : Byte
  deriving DecidableEq, Repr

/-- The pixel buffer by row (rule R34): the listed rows 0 to 143, each a list of 160 entries. -/
abbrev PixelBuffer := Sparse (List Rgb)

/-- The eight buttons, the host's state (rule R270): `true` is pressed. -/
structure Buttons where
  right : Bool
  left : Bool
  up : Bool
  down : Bool
  a : Bool
  b : Bool
  select : Bool
  start : Bool
  deriving DecidableEq, Repr

/-- `CART_TYPE` (rules R4, R56, R57): image byte 0x147 is 0x00 or 0x01; no machine exists for another value. -/
inductive CartType where
  | flat
  | banked
  deriving DecidableEq, Repr

/-- The type byte of each cartridge (rules R56, R57). -/
def CartType.code : CartType → Byte
  | .flat => 0x00
  | .banked => 0x01

/-- `CONTENTION_MODEL` (rule R58): whether Line Render also blocks object memory. -/
inductive ContentionModel where
  | fallthrough
  | separate
  deriving DecidableEq, Repr

/-- `ECHO_MODE` (rule R59): 0xE000 to 0xFDFF is storage of its own, or work RAM at the address less 0x2000. -/
inductive EchoMode where
  | separate
  | aliasWram
  deriving DecidableEq, Repr

/-- `GAP_POLICY` (rule R54): the spec defines the one policy `fault` and no filler units. -/
inductive GapPolicy where
  | fault
  deriving DecidableEq, Repr

/-- `TIMER_MODEL` (rule R246). -/
inductive TimerModel where
  | external
  | none
  deriving DecidableEq, Repr

/-- `JOYPAD_MODEL` (rule R270). -/
inductive JoypadModel where
  | external
  | none
  deriving DecidableEq, Repr

/-- `PALETTE_MODE` (rule R261): the colour index selects the shade directly, or through BGP, OBP0, OBP1. -/
inductive PaletteMode where
  | direct
  | register
  deriving DecidableEq, Repr

/-- `SHADE[0..3]` (rules R4, R261): 0 lightest, 3 darkest. -/
structure Shades where
  s0 : Rgb
  s1 : Rgb
  s2 : Rgb
  s3 : Rgb
  deriving DecidableEq, Repr

/-- `VEC[0..4]` (rules R4, R231): the address a service of each source enters, in priority order. -/
structure Vectors where
  v0 : Word
  v1 : Word
  v2 : Word
  v3 : Word
  v4 : Word
  deriving DecidableEq, Repr

/-- `INIT_REGS` and `INIT_RAM` (rules R4, R40, R302): what the state the spec gives no reset value for holds at
reset. `f` counts in its bits 7 to 4 only. `ram` lists the bytes of every RAM by bus address (the timer's four bytes
of `TIMER_MODEL = none` among them), `pb` the rows of the pixel buffer. -/
structure Init where
  a : Byte
  f : Byte
  b : Byte
  c : Byte
  d : Byte
  e : Byte
  h : Byte
  l : Byte
  sp : Word
  ram : Memory
  pb : PixelBuffer
  joypSel : BitVec 2
  buttons : Buttons
  deriving DecidableEq, Repr

/-- The named parameters of rule R4, fixed for one machine: `PREFIX`, `VEC`, `CYC`, `CYC_CB`, `CYC_TAKEN_EXTRA`,
`CYC_UNRECOGNIZED` and `FILL`, then the images and the OPEN ones. `cyc` and `cycCb` are tables of a byte by high
nibble, then low nibble; `cycTakenExtra` lists extras by first byte, 0 where nothing is listed. `bootRom` and `cartRom` list bytes by image offset;
`cartLen` is the length of the cartridge image in bytes. -/
structure Config where
  prefixByte : Byte
  vec : Vectors
  cyc : List (List Nat)
  cycCb : List (List Nat)
  cycTakenExtra : Sparse Nat
  cycUnrecognized : Nat
  fill : Byte
  bootRom : Memory
  cartRom : Memory
  cartLen : Nat
  cartType : CartType
  contention : ContentionModel
  echo : EchoMode
  gap : GapPolicy
  timer : TimerModel
  joypad : JoypadModel
  palette : PaletteMode
  shade : Shades
  init : Init
  deriving DecidableEq, Repr

namespace Config

/-- `INT_PENALTY` (rules R4, R238). -/
def intPenalty : Nat := 20

/-- `HALT_STEP_COST` (rules R4, R221). -/
def haltStepCost : Nat := 1

/-- The budget of OAM Search (rules R4, R250). -/
def oamSearchBudget : Nat := 80

/-- The budget of Line Render (rules R4, R250). -/
def lineRenderBudget : Nat := 172

/-- The budget of HBlank (rules R4, R250). -/
def hblankBudget : Nat := 204

/-- The budget of one VBlank line (rules R4, R250). -/
def vblankBudget : Nat := 456

/-- Visible lines (rule R4). -/
def visibleLines : Nat := 144

/-- Total lines (rule R4). -/
def totalLines : Nat := 154

/-- Columns of the pixel buffer (rule R34). -/
def columns : Nat := 160

/-- Sprites cached for one line at most (rule R257). -/
def spritesPerLine : Nat := 10

/-- FREE VALUE (assumption 5): what a read of a timer register returns under `TIMER_MODEL = external`, by the model's
count of the moments at which it may change and by the address. Rule R246 gives a read there no value. -/
opaque timerByte : Nat → Word → Byte

/-- The default of `VEC` (rule R4). -/
def defaultVectors : Vectors := { v0 := 0x0040, v1 := 0x0048, v2 := 0x0050, v3 := 0x0058, v4 := 0x0060 }

/-- The default of `SHADE` (rule R4). -/
def defaultShades : Shades :=
  { s0 := ⟨255, 255, 255⟩, s1 := ⟨170, 170, 170⟩, s2 := ⟨85, 85, 85⟩, s3 := ⟨0, 0, 0⟩ }

/-- No button pressed. -/
def noButtons : Buttons := ⟨false, false, false, false, false, false, false, false⟩

/-- DESIGN CHOICE (assumption 1), UNSAFE: zero for every register and byte whose reset value the spec leaves open. -/
def defaultInit : Init :=
  { a := 0, f := 0, b := 0, c := 0, d := 0, e := 0, h := 0, l := 0, sp := 0,
    ram := [], pb := [], joypSel := 0, buttons := noButtons }

/-- The defaults of rule R4. The contents of `BOOT_ROM` and of `CART_ROM` are not in the spec: DESIGN CHOICE
(assumption 2), an image in which nothing is listed, of the least length of rule R56. -/
def default : Config :=
  { prefixByte := 0xCB, vec := defaultVectors,
    cyc := Machine.baseCounts, cycCb := Machine.cbCounts, cycTakenExtra := Machine.takenExtras, cycUnrecognized := 4,
    fill := 0xFF,
    bootRom := [], cartRom := [], cartLen := 0x8000, cartType := .flat,
    contention := .fallthrough, echo := .separate, gap := .fault,
    timer := .external, joypad := .external, palette := .direct,
    shade := defaultShades, init := defaultInit }

end Config

end Sys2Proof
end

