-- ==== Sys2Proof/Machine/Memory.lean ====
section
/-! DEFINITION. Machine/Memory.lean: sparse storage in one canonical form (the arrays of rules R34 and R36), and the
two kinds of it the machine has, bytes and pixel rows. -/

namespace Sys2Proof

/-- The value at key `k`, `d` where nothing is listed. -/
def Sparse.get {α : Type} (d : α) : Sparse α → Nat → α
  | [], _ => d
  | (k, x) :: m, a => if k = a then x else Sparse.get d m a

/-- Stores `v` at key `a`, keeping keys strictly rising and no entry equal to `d`. -/
def Sparse.set {α : Type} [DecidableEq α] (d : α) : Sparse α → Nat → α → Sparse α
  | [], a, v => if v = d then [] else [(a, v)]
  | (k, x) :: m, a, v =>
    if a < k then (if v = d then (k, x) :: m else (a, v) :: (k, x) :: m)
    else if a = k then (if v = d then m else (a, v) :: m)
    else (k, x) :: Sparse.set d m a v

/-- Every key is at least `lo`, keys rise strictly, and no entry equals `d`. -/
def Sparse.wfFrom {α : Type} [DecidableEq α] (d : α) : Nat → Sparse α → Bool
  | _, [] => true
  | lo, (k, x) :: m => decide (lo ≤ k) && decide (x ≠ d) && Sparse.wfFrom d (k + 1) m

/-- DESIGN CHOICE (assumptions 1 and 2), UNSAFE: what a byte that nothing has written reads as. -/
def unlistedByte : Byte := 0x00

/-- The byte of memory at address (or image offset) `a`. -/
def Memory.read (m : Memory) (a : Nat) : Byte := Sparse.get unlistedByte m a

/-- Stores one byte. -/
def Memory.write (m : Memory) (a : Nat) (v : Byte) : Memory := Sparse.set unlistedByte m a v

/-- The canonical form: addresses strictly rising, no entry equal to what an unlisted address reads as. -/
def Memory.wf (m : Memory) : Bool := Sparse.wfFrom unlistedByte 0 m

/-- DESIGN CHOICE (assumption 1), UNSAFE: what a row of the pixel buffer that nothing has drawn holds. -/
def unlistedRow : List Rgb := List.replicate Config.columns ⟨0, 0, 0⟩

/-- Row `line` of the pixel buffer (rule R34). -/
def PixelBuffer.row (p : PixelBuffer) (line : Nat) : List Rgb := Sparse.get unlistedRow p line

/-- Replaces row `line` of the pixel buffer. -/
def PixelBuffer.setRow (p : PixelBuffer) (line : Nat) (row : List Rgb) : PixelBuffer :=
  Sparse.set unlistedRow p line row

/-- The canonical form of the pixel buffer, every listed row one of the 144 and 160 entries long (rule R34). -/
def PixelBuffer.wf (p : PixelBuffer) : Bool :=
  Sparse.wfFrom unlistedRow 0 p &&
    p.all fun kr => decide (kr.1 < Config.visibleLines) && decide (kr.2.length = Config.columns)

end Sys2Proof
end

