-- ==== Sys2Proof/WellFormed.lean ====
section
/-! DEFINITION. WellFormed.lean: what an instruction and a configuration must satisfy. The operand of an
instruction is a `Byte` or a `Word` of exactly the width the format gives it (rule R91) and every other field is part
of the opcode (rule R105), so every term of `Instr` is well-formed. A configuration is checked: rules R55 to R57, R97 and
R320. -/

namespace Sys2Proof

/-- Every term of `Instr` is well-formed: the widths of the operands are in their types (rules R91, R95, R105). -/
def Instr.wellFormed (_ : Instr) : Bool := true

namespace Config

/-- The boot ROM is 256 bytes at 0x0000 (rule R55): nothing is listed past it. -/
def bootRomOk (c : Config) : Bool := c.bootRom.wf && c.bootRom.all fun p => decide (p.1 < 0x100)

/-- The cartridge image: canonical, nothing listed past its end. -/
def cartRomOk (c : Config) : Bool := c.cartRom.wf && c.cartRom.all fun p => decide (p.1 < c.cartLen)

/-- "`CART_ROM` must hold at least 0x8000 bytes" (rule R56). -/
def cartLenOk (c : Config) : Bool := decide (0x8000 ≤ c.cartLen)

/-- The byte at offset 0x147 is the controller-type identifier (rules R56, R57). -/
def cartTypeOk (c : Config) : Bool := decide (c.cartRom.read 0x147 = c.cartType.code)

/-- The initial contents of RAM and of the pixel buffer are in canonical form. -/
def initOk (c : Config) : Bool := c.init.ram.wf && c.init.pb.wf

/-- "There is exactly one prefix" and its cell of the map is 0xCB (rules R97, R98). -/
def prefixOk (c : Config) : Bool := decide (c.prefixByte = 0xCB)

/-- Sixteen rows of sixteen entries: one entry for every byte. -/
def tableOk (t : List (List Nat)) : Bool := decide (t.length = 16) && t.all fun row => decide (row.length = 16)

/-- The cycle tables have an entry for every byte, those of the unrecognized bytes are `CYC_UNRECOGNIZED`, and the extras
are in canonical form, by first byte (rules R4, R320). -/
def costsOk (c : Config) : Bool :=
  tableOk c.cyc && tableOk c.cycCb &&
    (unrecognizedBytes.all fun op => decide (Machine.byteEntry 0 c.cyc op = c.cycUnrecognized)) &&
    Sparse.wfFrom 0 0 c.cycTakenExtra && c.cycTakenExtra.all fun e => decide (e.1 < 256)

/-- A configuration of which a machine can be built. -/
def wellFormed (c : Config) : Bool :=
  c.bootRomOk && c.cartRomOk && c.cartLenOk && c.cartTypeOk && c.initOk && c.prefixOk && c.costsOk

/-- Building the machine's cartridge from its image (rules R56, R300): the type byte chooses the controller, and "a
malformed cartridge-type byte" or an image that fails a check leaves no machine. -/
def withCartridge? (c : Config) (image : Memory) (len : Nat) : Option Config :=
  let t := image.read 0x147
  let ty := if t = CartType.flat.code then some CartType.flat
    else if t = CartType.banked.code then some CartType.banked
    else Option.none
  match ty with
  | some ty =>
    let c' := { c with cartRom := image, cartLen := len, cartType := ty }
    if c'.wellFormed then some c' else Option.none
  | Option.none => Option.none

end Config

end Sys2Proof
end

