-- ==== Sys2Proof/Machine/State.lean ====
section
/-! DEFINITION. Machine/State.lean: the state of the four CORE parts (rules R20 to R37) as plain data, the ways a
step can stop, and the state after reset (rule R40). -/

namespace Sys2Proof.Machine

/-- Why the machine stops. None of the three is an event of the hardware (rule R230): each marks a situation the spec
gives no meaning and asks a model to stop at (rule R12). All three are SAFE: the model stops where the hardware's
behaviour is not stated. -/
inductive Fault where
  /-- `fault(gap)` (rule R54, U3): an access, fetch or DMA source read at an address no listed range owns. Raised by
  `busRead` and `busWrite`. Safe. -/
  | gap (addr : Word)
  /-- `fault("STOP")` (rule R222, U1): the byte 0x10 was decoded as an opcode. Raised by `execStop`. Safe. -/
  | stop
  /-- `fault(pending-without-source)` (rule R234, U2): an interrupt is to be serviced and only bits 7 to 5 are
  pending. Raised by `pendingVector`. Safe. -/
  | pendingWithoutSource
  deriving DecidableEq, Repr

/-- Why an instruction is rejected. -/
inductive Refusal where
  /-- An instruction without a meaning in this model, by its mnemonic. Raised by no arm of `exec`. Safe. -/
  | notModelled (mnemonic : String)
  deriving DecidableEq, Repr

/-- The four flags, the significant bits of F (rule R22): `z` bit 7, `n` bit 6, `h` bit 5, `c` bit 4. The low nibble of F
has no storage: it always reads 0. -/
structure Flags where
  z : Bool
  n : Bool
  h : Bool
  c : Bool
  deriving DecidableEq, Repr

/-- The CPU: registers (rules R20 to R24) and control state (rules R26, R27). -/
structure Cpu where
  a : Byte
  b : Byte
  c : Byte
  d : Byte
  e : Byte
  h : Byte
  l : Byte
  flags : Flags
  sp : Word
  pc : Word
  ime : Bool
  halted : Bool
  deriving DecidableEq, Repr

/-- The PPU's four modes (rules R30, R250). -/
inductive Mode where
  | hblank
  | vblank
  | oamSearch
  | lineRender
  deriving DecidableEq, Repr

/-- One entry of the sprite cache (rules R30, R257). -/
structure Sprite where
  y : Byte
  x : Byte
  tile : Byte
  attr : Byte
  deriving DecidableEq, Repr

/-- The PPU: internal state (rule R30) and registers (rules R31 to R33). `statSel` is STAT bits 6 to 3, `lycEq` STAT
bit 2; STAT bits 1 to 0 are `mode` and LY is `line`. -/
structure Ppu where
  mode : Mode
  cnt : Nat
  line : Nat
  cache : List Sprite
  lcdc : Byte
  statSel : BitVec 4
  lycEq : Bool
  scy : Byte
  scx : Byte
  lyc : Byte
  dma : Byte
  bgp : Byte
  obp0 : Byte
  obp1 : Byte
  wy : Byte
  wx : Byte
  deriving DecidableEq, Repr

/-- What the external agent and the host do after one step (rules R11, R14, R246, R270): the timer raises IF bit 2 or
not, the joypad raises IF bit 4 or not, and the host may change the buttons. -/
structure AgentEvent where
  timer : Bool
  joypad : Bool
  buttons : Option Buttons
  deriving DecidableEq, Repr

/-- The state of the machine. `ram` holds every memory of rule R36 by bus address. `cycles` is the count the last CPU
step returned (rules R9, R235). `timerEpoch` and `agent` are the model's own: the argument of the free value
`Config.timerByte`, and what the external agent will do, one entry a step, nothing once the list is used up
(assumptions 4 and 5). -/
structure State where
  cfg : Config
  cpu : Cpu
  ifReg : Byte
  ieReg : Byte
  ppu : Ppu
  pb : PixelBuffer
  bootMapped : Bool
  unmapReg : Byte
  romBank : BitVec 5
  ram : Memory
  joypSel : BitVec 2
  buttons : Buttons
  cycles : Nat
  timerEpoch : Nat
  agent : List AgentEvent
  deriving DecidableEq, Repr

/-- The result of a step or of an instruction. -/
abbrev Result := Host.Outcome State Fault Refusal

/-- The CPU at reset (rule R40): `pc` = 0, IME and `halted` clear, F[3:0] zero, the rest from `INIT_REGS`. -/
def Cpu.reset (i : Init) : Cpu :=
  { a := i.a, b := i.b, c := i.c, d := i.d, e := i.e, h := i.h, l := i.l,
    flags := ⟨i.f.getLsbD 7, i.f.getLsbD 6, i.f.getLsbD 5, i.f.getLsbD 4⟩,
    sp := i.sp, pc := 0, ime := false, halted := false }

/-- The PPU at reset (rule R40). -/
def Ppu.reset : Ppu :=
  { mode := .oamSearch, cnt := 0, line := 0, cache := [], lcdc := 0, statSel := 0, lycEq := false,
    scy := 0, scx := 0, lyc := 0, dma := 0, bgp := 0, obp0 := 0, obp1 := 0, wy := 0, wx := 0 }

/-- The machine right after reset with the given parameters (rules R40, R300 to R302). -/
def State.resetWith (cfg : Config) (agent : List AgentEvent) : State :=
  { cfg := cfg, cpu := Cpu.reset cfg.init, ifReg := 0, ieReg := 0, ppu := Ppu.reset, pb := cfg.init.pb,
    bootMapped := true, unmapReg := 0, romBank := 1, ram := cfg.init.ram,
    joypSel := cfg.init.joypSel, buttons := cfg.init.buttons,
    cycles := 0, timerEpoch := 0, agent := agent }

/-- The machine right after reset with the default parameters of rule R4 and an external agent that does nothing. -/
def State.reset : State := State.resetWith Config.default []

end Sys2Proof.Machine
end

