-- ==== Sys2Proof/Machine/Bus.lean ====
section
/-! DEFINITION. Machine/Bus.lean: the memory bus: address decode (rules R51, R53), the unit contract (rule R52), the
hooks of rule R61, and the DMA copy (rule R62). -/

namespace Sys2Proof.Machine

/-! ## Address decode -/

/-- The units of rule R53's map. -/
inductive Owner where
  | bootRom | cartRom | vram | cram | wram | echo | oam | gap
  | joypad | serial | timer | ifReg | sound
  | lcdc | stat | scy | scx | ly | lyc | dma | bgp | obp0 | obp1 | wy | wx
  | unmap | hram | ieReg
  deriving DecidableEq, Repr

/-- The PPU registers by address (rule R31). -/
def ppuRegister (a : Nat) : Owner :=
  if a = 0xFF40 then .lcdc
  else if a = 0xFF41 then .stat
  else if a = 0xFF42 then .scy
  else if a = 0xFF43 then .scx
  else if a = 0xFF44 then .ly
  else if a = 0xFF45 then .lyc
  else if a = 0xFF46 then .dma
  else if a = 0xFF47 then .bgp
  else if a = 0xFF48 then .obp0
  else if a = 0xFF49 then .obp1
  else if a = 0xFF4A then .wy
  else .wx

/-- The owner of an address in 0xFF00 to 0xFFFF (rule R53). -/
def highOwner (a : Nat) : Owner :=
  if a < 0xFF01 then .joypad
  else if a < 0xFF03 then .serial
  else if a < 0xFF04 then .gap
  else if a < 0xFF08 then .timer
  else if a < 0xFF0F then .gap
  else if a < 0xFF10 then .ifReg
  else if a < 0xFF40 then .sound
  else if a < 0xFF4C then ppuRegister a
  else if a < 0xFF50 then .gap
  else if a < 0xFF51 then .unmap
  else if a < 0xFF80 then .gap
  else if a < 0xFFFF then .hram
  else .ieReg

/-- The owner of each address (rules R51, R53, R55); an address of the list's gaps is owned by `gap` (rule R54). -/
def owner (bootMapped : Bool) (a : Nat) : Owner :=
  if a < 0x0100 then (if bootMapped then .bootRom else .cartRom)
  else if a < 0x8000 then .cartRom
  else if a < 0xA000 then .vram
  else if a < 0xC000 then .cram
  else if a < 0xE000 then .wram
  else if a < 0xFE00 then .echo
  else if a < 0xFEA0 then .oam
  else if a < 0xFF00 then .gap
  else highOwner a

/-- The owner the machine's bus decodes address `a` to. -/
def State.owner (s : State) (a : Word) : Owner := Machine.owner s.bootMapped a.toNat

/-! ## Contention -/

/-- VRAM is blocked while the PPU renders the line (rule R58). -/
def State.vramBlocked (s : State) : Bool :=
  match s.ppu.mode with
  | .lineRender => true
  | .oamSearch | .hblank | .vblank => false

/-- Object memory is blocked in OAM Search and, by the fall-through, in Line Render (rule R58). -/
def State.oamBlocked (s : State) : Bool :=
  match s.ppu.mode with
  | .oamSearch => true
  | .lineRender =>
    match s.cfg.contention with
    | .fallthrough => true
    | .separate => false
  | .hblank | .vblank => false

/-! ## Stored values -/

/-- The offset in the cartridge image that a cartridge address reads (rules R56, R57). -/
def State.cartIndex (s : State) (a : Nat) : Nat :=
  match s.cfg.cartType with
  | .flat => a
  | .banked =>
    if a < 0x4000 then a else (s.romBank.toNat * 0x4000 + (a - 0x4000)) % s.cfg.cartLen

/-- Where an echo address is stored (rule R59). -/
def State.echoAddr (s : State) (a : Nat) : Nat :=
  match s.cfg.echo with
  | .separate => a
  | .aliasWram => a - 0x2000

/-- The PPU mode as STAT shows it (rule R33). -/
def Mode.code : Mode → BitVec 2
  | .hblank => 0
  | .vblank => 1
  | .oamSearch => 2
  | .lineRender => 3

/-- STAT as it reads (rule R33): bit 7 zero, bits 6 to 3 stored, bit 2 the compare flag, bits 1 to 0 the mode. -/
def Ppu.stat (p : Ppu) : Byte := (0 : BitVec 1) ++ p.statSel ++ BitVec.ofBool p.lycEq ++ p.mode.code

/-- A nibble with a 0 for each pressed button, bit 3 first (rule R270). -/
def pressNibble (b3 b2 b1 b0 : Bool) : BitVec 4 :=
  BitVec.ofBool (!b3) ++ BitVec.ofBool (!b2) ++ BitVec.ofBool (!b1) ++ BitVec.ofBool (!b0)

/-- The low nibble of the joypad register (rule R270); `sel` is bits 5 and 4 of the last write, active low. -/
def joypadNibble (sel : BitVec 2) (k : Buttons) : BitVec 4 :=
  (if sel.getLsbD 0 then 0xF else pressNibble k.down k.up k.left k.right) &&&
    (if sel.getLsbD 1 then 0xF else pressNibble k.start k.select k.b k.a)

/-- The joypad register as it reads: `0xC0 OR (sel AND 0x30) OR n` (rule R270). -/
def joypadRead (sel : BitVec 2) (k : Buttons) : Byte := (3 : BitVec 2) ++ sel ++ joypadNibble sel k

/-- `u.storage[a - u.base]`: the byte a unit holds at an address. -/
def State.stored (s : State) (o : Owner) (a : Nat) : Byte :=
  match o with
  | .bootRom => s.cfg.bootRom.read a
  | .cartRom => s.cfg.cartRom.read (s.cartIndex a)
  | .vram | .cram | .wram | .oam | .serial | .sound | .hram | .timer => s.ram.read a
  | .echo => s.ram.read (s.echoAddr a)
  | .gap => s.cfg.fill
  | .joypad => joypadRead s.joypSel s.buttons
  | .ifReg => s.ifReg
  | .lcdc => s.ppu.lcdc
  | .stat => s.ppu.stat
  | .scy => s.ppu.scy
  | .scx => s.ppu.scx
  | .ly => BitVec.ofNat 8 s.ppu.line
  | .lyc => s.ppu.lyc
  | .dma => s.ppu.dma
  | .bgp => s.ppu.bgp
  | .obp0 => s.ppu.obp0
  | .obp1 => s.ppu.obp1
  | .wy => s.ppu.wy
  | .wx => s.ppu.wx
  | .unmap => s.unmapReg
  | .ieReg => s.ieReg

/-- `u.storage[a - u.base] <- v`. STAT keeps bits 6 to 3 of the written byte, the joypad bits 5 and 4 (rules R33,
R270). -/
def State.store (s : State) (o : Owner) (a : Nat) (v : Byte) : State :=
  match o with
  | .vram | .cram | .wram | .oam | .serial | .sound | .hram | .timer => { s with ram := s.ram.write a v }
  | .echo => { s with ram := s.ram.write (s.echoAddr a) v }
  | .joypad => { s with joypSel := v.extractLsb' 4 2 }
  | .ifReg => { s with ifReg := v }
  | .lcdc => { s with ppu := { s.ppu with lcdc := v } }
  | .stat => { s with ppu := { s.ppu with statSel := v.extractLsb' 3 4 } }
  | .scy => { s with ppu := { s.ppu with scy := v } }
  | .scx => { s with ppu := { s.ppu with scx := v } }
  | .lyc => { s with ppu := { s.ppu with lyc := v } }
  | .dma => { s with ppu := { s.ppu with dma := v } }
  | .bgp => { s with ppu := { s.ppu with bgp := v } }
  | .obp0 => { s with ppu := { s.ppu with obp0 := v } }
  | .obp1 => { s with ppu := { s.ppu with obp1 := v } }
  | .wy => { s with ppu := { s.ppu with wy := v } }
  | .wx => { s with ppu := { s.ppu with wx := v } }
  | .unmap => { s with unmapReg := v }
  | .ieReg => { s with ieReg := v }
  | .bootRom | .cartRom | .gap | .ly => s

/-- The read-only units (rules R53, R33): ROM, and LY, whose writes are dropped. -/
def Owner.readOnly : Owner → Bool
  | .bootRom | .cartRom | .gap | .ly => true
  | _ => false

/-! ## Reads -/

/-- The on-read hooks (rules R58, R246): a blocked range gives the fill value, an external timer any value. -/
def State.onRead (s : State) (o : Owner) (a : Word) (v : Byte) : Byte :=
  match o with
  | .vram => if s.vramBlocked then s.cfg.fill else v
  | .oam => if s.oamBlocked then s.cfg.fill else v
  | .timer =>
    match s.cfg.timer with
    | .external => Config.timerByte s.timerEpoch a
    | .none => v
  | _ => v

/-- `MemRead(a, 1)` (rule R52). A gap address has no meaning (rule R54). -/
def busRead (s : State) (a : Word) : Except Fault Byte :=
  match s.owner a with
  | .gap =>
    match s.cfg.gap with
    | .fault => .error (.gap a)
  | o => .ok (s.onRead o a (s.stored o a.toNat))

/-! ## DMA -/

/-- Copies `n` bytes, the first from `src` to object-memory offset `i`, in ascending order (rule R62): each read is a
full bus read, each write goes directly into object memory. -/
def dmaLoop : Nat → Word → Nat → State → Except Fault State
  | 0, _, _, s => .ok s
  | n + 1, src, i, s =>
    match busRead s src with
    | .ok b => dmaLoop n (src + 1) (i + 1) { s with ram := s.ram.write (0xFE00 + i) b }
    | .error f => .error f

/-- The copy a write of `v` to 0xFF46 triggers (rule R62): 160 bytes from `v * 0x100`. -/
def dmaCopy (v : Byte) (s : State) : Except Fault State := dmaLoop 160 (mkWord v 0) 0 s

/-! ## Writes -/

/-- The bank a write to 0x2000 to 0x3FFF selects: the low 5 bits, 0 treated as 1 (rule R57). -/
def bankOf (v : Byte) : BitVec 5 := if v.extractLsb' 0 5 = 0 then 1 else v.extractLsb' 0 5

/-- The on-write hooks (rule R61): the state after the hook, and the byte to store or `none` for a veto. -/
def State.onWrite (s : State) (o : Owner) (a : Word) (v : Byte) : Except Fault (State × Option Byte) :=
  match o with
  | .cartRom =>
    match s.cfg.cartType with
    | .flat => .ok (s, some v)
    | .banked =>
      if 0x2000 ≤ a.toNat ∧ a.toNat < 0x4000 then .ok ({ s with romBank := bankOf v }, some v)
      else .ok (s, some v)
  | .vram => .ok (s, if s.vramBlocked then none else some v)
  | .oam => .ok (s, if s.oamBlocked then none else some v)
  | .timer =>
    match s.cfg.timer with
    | .external => .ok ({ s with timerEpoch := s.timerEpoch + 1 }, none)
    | .none => .ok (s, some v)
  | .dma =>
    match dmaCopy v s with
    | .ok s' => .ok (s', some v)
    | .error f => .error f
  | .unmap => .ok ({ s with bootMapped := false }, some v)
  | _ => .ok (s, some v)

/-- `MemWrite(a, 1, v)` (rule R52): the hook first, then the read-only test, then the store. -/
def busWrite (s : State) (a : Word) (v : Byte) : Except Fault State :=
  match s.owner a with
  | .gap =>
    match s.cfg.gap with
    | .fault => .error (.gap a)
  | o =>
    match s.onWrite o a v with
    | .error f => .error f
    | .ok (s', none) => .ok s'
    | .ok (s', some w) => if o.readOnly then .ok s' else .ok (s'.store o a.toNat w)

/-! ## What an access meets and what a write can change -/

/-- The gaps of rule R54: the addresses the list of rule R53 gives no owner. -/
def isGap (a : Word) : Bool :=
  decide (0xFEA0 ≤ a.toNat ∧ a.toNat ≤ 0xFEFF) || decide (a.toNat = 0xFF03) ||
    decide (0xFF08 ≤ a.toNat ∧ a.toNat ≤ 0xFF0E) || decide (0xFF4C ≤ a.toNat ∧ a.toNat ≤ 0xFF4F) ||
    decide (0xFF51 ≤ a.toNat ∧ a.toNat ≤ 0xFF7F)

/-- The writes that meet no gap (rules R54, R62, R314): not to a gap, and not the DMA of page 0xFF, whose source runs into
one. -/
def storeOk (a : Word) (v : Byte) : Bool := !isGap a && (decide (a ≠ 0xFF46) || decide (v ≠ 0xFF))

/-- Two addresses of the echo range and work RAM that share a byte under `ECHO_MODE = alias` (rule R59). -/
def echoPair (a b : Nat) : Bool :=
  decide (0xE000 ≤ a ∧ a < 0xFE00 ∧ b + 0x2000 = a) || decide (0xE000 ≤ b ∧ b < 0xFE00 ∧ a + 0x2000 = b)

/-- The addresses `b` whose reads a write to `a` may change (rule R61): `a` itself unless writes there are dropped, the
switched bank, the boot ROM's range, object memory after DMA, the timer's registers, the echo of `a`. -/
def writeTouches (s : State) (a b : Word) : Bool :=
  match s.owner a with
  | .bootRom | .gap | .ly => false
  | .cartRom =>
    match s.cfg.cartType with
    | .flat => false
    | .banked => decide (0x2000 ≤ a.toNat ∧ a.toNat < 0x4000 ∧ 0x4000 ≤ b.toNat ∧ b.toNat < 0x8000)
  | .timer =>
    match s.cfg.timer with
    | .external => decide (s.owner b = .timer)
    | .none => decide (b = a)
  | .dma => decide (b = a) || decide (s.owner b = .oam)
  | .unmap => decide (b = a) || decide (b.toNat < 0x0100)
  | .wram | .echo =>
    decide (b = a) ||
      match s.cfg.echo with
      | .separate => false
      | .aliasWram => echoPair a.toNat b.toNat
  | _ => decide (b = a)

/-! ## The map as the spec's table -/

/-- A unit of the map: base, size, owner (rules R51, R52). -/
structure Region where
  base : Nat
  size : Nat
  unit : Owner
  deriving DecidableEq, Repr

/-- The rows of rule R53's table that have an owner, the PPU registers one by one (rule R31). -/
def addressMap (bootMapped : Bool) : List Region :=
  [⟨0x0000, 0x0100, if bootMapped then .bootRom else .cartRom⟩, ⟨0x0100, 0x7F00, .cartRom⟩,
   ⟨0x8000, 0x2000, .vram⟩, ⟨0xA000, 0x2000, .cram⟩, ⟨0xC000, 0x2000, .wram⟩, ⟨0xE000, 0x1E00, .echo⟩,
   ⟨0xFE00, 0xA0, .oam⟩, ⟨0xFF00, 1, .joypad⟩, ⟨0xFF01, 2, .serial⟩, ⟨0xFF04, 4, .timer⟩,
   ⟨0xFF0F, 1, .ifReg⟩, ⟨0xFF10, 0x30, .sound⟩] ++
  [⟨0xFF40, 1, .lcdc⟩, ⟨0xFF41, 1, .stat⟩, ⟨0xFF42, 1, .scy⟩, ⟨0xFF43, 1, .scx⟩, ⟨0xFF44, 1, .ly⟩,
   ⟨0xFF45, 1, .lyc⟩, ⟨0xFF46, 1, .dma⟩, ⟨0xFF47, 1, .bgp⟩, ⟨0xFF48, 1, .obp0⟩, ⟨0xFF49, 1, .obp1⟩,
   ⟨0xFF4A, 1, .wy⟩, ⟨0xFF4B, 1, .wx⟩, ⟨0xFF50, 1, .unmap⟩, ⟨0xFF80, 0x7F, .hram⟩, ⟨0xFFFF, 1, .ieReg⟩]

/-- The floor lookup of rule R51: the region with the greatest base that is at most `a`, whatever the order of the
list. -/
def floorLookup (a : Nat) : List Region → Option Region
  | [] => none
  | r :: m =>
    match floorLookup a m with
    | none => if r.base ≤ a then some r else none
    | some q => if r.base ≤ a ∧ q.base < r.base then some r else some q

/-- The unit a map decodes an address to (rules R51, R54): the floor region's if the offset is inside it, else a gap. -/
def resolve (m : List Region) (a : Nat) : Owner :=
  match floorLookup a m with
  | some r => if a - r.base < r.size then r.unit else .gap
  | none => .gap

end Sys2Proof.Machine
end

