-- ==== Sys2Proof/Machine/Operands.lean ====
section
/-! DEFINITION. Machine/Operands.lean: the operand forms of the instruction set (rules R20 to R22, R92 to R95, R129). -/

namespace Sys2Proof.Machine

/-! ## Registers -/

/-- `x[r]` (rule R8). -/
def Cpu.get (u : Cpu) : Reg → Byte
  | .b => u.b
  | .c => u.c
  | .d => u.d
  | .e => u.e
  | .h => u.h
  | .l => u.l
  | .a => u.a

/-- `x[r] <- v` (rule R8). -/
def Cpu.put (u : Cpu) (r : Reg) (v : Byte) : Cpu :=
  match r with
  | .b => { u with b := v }
  | .c => { u with c := v }
  | .d => { u with d := v }
  | .e => { u with e := v }
  | .h => { u with h := v }
  | .l => { u with l := v }
  | .a => { u with a := v }

/-- `x[r]` of the machine. -/
def State.reg (s : State) (r : Reg) : Byte := s.cpu.get r

/-- `x[r] <- v` of the machine. -/
def State.setReg (s : State) (r : Reg) (v : Byte) : State := { s with cpu := s.cpu.put r v }

/-- Writes the four flags. -/
def State.setFlags (s : State) (f : Flags) : State := { s with cpu := { s.cpu with flags := f } }

/-- `sp <- w`. -/
def State.setSp (s : State) (w : Word) : State := { s with cpu := { s.cpu with sp := w } }

/-- `pc <- w`. -/
def State.setPc (s : State) (w : Word) : State := { s with cpu := { s.cpu with pc := w } }

/-- `IME <- v` (rule R26). -/
def State.setIme (s : State) (v : Bool) : State := { s with cpu := { s.cpu with ime := v } }

/-- `halted <- v` (rule R27). -/
def State.setHalted (s : State) (v : Bool) : State := { s with cpu := { s.cpu with halted := v } }

/-- The cycle count the step returns (rule R235). -/
def State.setCycles (s : State) (n : Nat) : State := { s with cycles := n }

/-! ## The flags byte -/

/-- F as a byte (rule R22): Z bit 7, N bit 6, H bit 5, C bit 4, bits 3 to 0 zero. -/
def Flags.toByte (f : Flags) : Byte :=
  BitVec.ofBool f.z ++ BitVec.ofBool f.n ++ BitVec.ofBool f.h ++ BitVec.ofBool f.c ++ (0 : BitVec 4)

/-- `x[F] <- v AND 0xF0` (rules R21, R22): the low nibble is discarded. -/
def Flags.ofByte (v : Byte) : Flags := ⟨v.getLsbD 7, v.getLsbD 6, v.getLsbD 5, v.getLsbD 4⟩

/-- `x[F]` of the machine. -/
def State.f (s : State) : Byte := s.cpu.flags.toByte

/-! ## Pairs (rules R21, R93) -/

/-- `xx[BC]`. -/
def State.bc (s : State) : Word := mkWord s.cpu.b s.cpu.c

/-- `xx[DE]`. -/
def State.de (s : State) : Word := mkWord s.cpu.d s.cpu.e

/-- `xx[HL]`. -/
def State.hl (s : State) : Word := mkWord s.cpu.h s.cpu.l

/-- `xx[AF]`. -/
def State.af (s : State) : Word := mkWord s.cpu.a s.f

/-- `xx[BC] <- w`. -/
def State.setBc (s : State) (w : Word) : State := { s with cpu := { s.cpu with b := hiByte w, c := loByte w } }

/-- `xx[DE] <- w`. -/
def State.setDe (s : State) (w : Word) : State := { s with cpu := { s.cpu with d := hiByte w, e := loByte w } }

/-- `xx[HL] <- w`. -/
def State.setHl (s : State) (w : Word) : State := { s with cpu := { s.cpu with h := hiByte w, l := loByte w } }

/-- `xx[AF] <- w`: the low nibble of F stays zero. -/
def State.setAf (s : State) (w : Word) : State :=
  { s with cpu := { s.cpu with a := hiByte w, flags := Flags.ofByte (loByte w) } }

/-- `xx[rr]` (rule R93). -/
def State.rr (s : State) : RR → Word
  | .bc => s.bc
  | .de => s.de
  | .hl => s.hl
  | .sp => s.cpu.sp

/-- `xx[rr] <- w`. -/
def State.setRr (s : State) (r : RR) (w : Word) : State :=
  match r with
  | .bc => s.setBc w
  | .de => s.setDe w
  | .hl => s.setHl w
  | .sp => s.setSp w

/-- `xx[qq]` (rule R93). -/
def State.qq (s : State) : QQ → Word
  | .bc => s.bc
  | .de => s.de
  | .hl => s.hl
  | .af => s.af

/-- `xx[qq] <- w`. -/
def State.setQq (s : State) (q : QQ) (w : Word) : State :=
  match q with
  | .bc => s.setBc w
  | .de => s.setDe w
  | .hl => s.setHl w
  | .af => s.setAf w

/-! ## The operand `r8[i]` (rule R92) -/

/-- Reading `r8[i]`: the register, or the byte of memory at HL. -/
def readR8 (s : State) : R8 → Except Fault Byte
  | .reg r => .ok (s.reg r)
  | .memHl => busRead s s.hl

/-- Writing `r8[i]`. -/
def writeR8 (s : State) (r : R8) (v : Byte) : Except Fault State :=
  match r with
  | .reg r => .ok (s.setReg r v)
  | .memHl => busWrite s s.hl v

/-- Reads an operand and gives it to an operation that writes registers and flags only. -/
def withOperand (op : Byte → State → State) (r : R8) (s : State) : Except Fault State :=
  match readR8 s r with
  | .ok v => .ok (op v s)
  | .error f => .error f

/-- Reads an operand, computes a new value and the flags from it and the old flags, writes the value back and then the
flags: one read, then one write (rules R65, R184). -/
def modifyOperand (op : Byte → Flags → Byte × Flags) (r : R8) (s : State) : Except Fault State :=
  match readR8 s r with
  | .ok v =>
    match writeR8 s r (op v s.cpu.flags).1 with
    | .ok s' => .ok (s'.setFlags (op v s.cpu.flags).2)
    | .error f => .error f
  | .error f => .error f

/-! ## Immediates and effective addresses (rules R95, R129) -/

/-- `sext_16(e8)` (rules R6, R95). -/
def signExt (e : Byte) : Word := e.signExtend 16

/-- The high-page address `0xFF00 + a8` (rules R95, R129). -/
def highPage (a : Byte) : Word := 0xFF00 + a.setWidth 16

/-- The condition `cc` (rules R94, R200). -/
def condHolds (cc : Cond) (f : Flags) : Bool :=
  match cc with
  | .nz => !f.z
  | .z => f.z
  | .nc => !f.c
  | .c => f.c

/-- The restart target `t * 8` (rules R96, R211). -/
def rstTarget (t : Oct) : Word := BitVec.ofNat 16 (8 * t.toNat)

end Sys2Proof.Machine
end

