-- ==== Sys2Proof/Machine/Flags.lean ====
section
/-! DEFINITION. Machine/Flags.lean: every result and flag computation the spec gives, as functions of bytes, words and
the old flags (rules R22, R143, R150 to R166, R170, R173, R180 to R195). Carries and borrows are the rules' own
comparisons of integers. -/

namespace Sys2Proof.Machine

/-- The number a carry-in counts for. -/
def carryIn (c : Bool) : Nat := if c then 1 else 0

/-- `v AND 0x0F` as a number. -/
def low4 (v : Byte) : Nat := v.toNat % 16

/-! ## 8-bit addition and subtraction -/

/-- `a + v + c` and its flags (rules R151, R152): H and C are carries out of bits 3 and 7. -/
def add8 (a v : Byte) (c : Bool) : Byte × Flags :=
  let w : Byte := BitVec.ofNat 8 (a.toNat + v.toNat + carryIn c)
  (w, { z := decide (w = 0), n := false,
        h := decide (low4 a + low4 v + carryIn c > 0x0F),
        c := decide (a.toNat + v.toNat + carryIn c > 0xFF) })

/-- `a - v - c` and its flags (rules R153, R154, R158): H and C are borrows into bits 4 and 8. -/
def sub8 (a v : Byte) (c : Bool) : Byte × Flags :=
  let w : Byte := a - v - BitVec.ofNat 8 (carryIn c)
  (w, { z := decide (w = 0), n := true,
        h := decide (low4 a < low4 v + carryIn c),
        c := decide (a.toNat < v.toNat + carryIn c) })

/-- Increment (rules R159, R160): C is kept. -/
def inc8 (v : Byte) (f : Flags) : Byte × Flags :=
  (v + 1, { z := decide (v + 1 = 0), n := false, h := decide (low4 v = 0x0F), c := f.c })

/-- Decrement (rules R161, R162): C is kept. -/
def dec8 (v : Byte) (f : Flags) : Byte × Flags :=
  (v - 1, { z := decide (v - 1 = 0), n := true, h := decide (low4 v = 0x00), c := f.c })

/-! ## Logic -/

/-- AND (rule R155): H set. -/
def and8 (a v : Byte) : Byte × Flags := (a &&& v, { z := decide (a &&& v = 0), n := false, h := true, c := false })

/-- XOR (rule R156). -/
def xor8 (a v : Byte) : Byte × Flags := (a ^^^ v, { z := decide (a ^^^ v = 0), n := false, h := false, c := false })

/-- OR (rule R157). -/
def or8 (a v : Byte) : Byte × Flags := (a ||| v, { z := decide (a ||| v = 0), n := false, h := false, c := false })

/-! ## DAA, CPL, SCF, CCF -/

/-- Decimal adjust (rule R163). Both tests of the addition branch use the value before any correction. -/
def daa8 (a : Byte) (f : Flags) : Byte × Flags :=
  if f.n then
    let w := a - ((if f.h then 0x06 else 0) ||| (if f.c then 0x60 else 0))
    (w, { z := decide (w = 0), n := f.n, h := false, c := f.c })
  else
    let c := f.c || decide (a.toNat > 0x99)
    let w := a + ((if f.h || decide (low4 a > 0x09) then 0x06 else 0) ||| (if c then 0x60 else 0))
    (w, { z := decide (w = 0), n := f.n, h := false, c := c })

/-- Complement (rule R164): N and H set, Z and C kept. -/
def cpl8 (a : Byte) (f : Flags) : Byte × Flags := (a ^^^ 0xFF, { f with n := true, h := true })

/-- SCF (rule R165): Z kept. -/
def scfFlags (f : Flags) : Flags := { f with n := false, h := false, c := true }

/-- CCF (rule R166): Z kept, C complemented. -/
def ccfFlags (f : Flags) : Flags := { f with n := false, h := false, c := !f.c }

/-! ## 16-bit arithmetic -/

/-- `ADD HL,rr` (rule R170): Z kept, H and C carries out of bits 11 and 15. -/
def add16 (x y : Word) (f : Flags) : Word × Flags :=
  (x + y, { z := f.z, n := false,
            h := decide (x.toNat % 0x1000 + y.toNat % 0x1000 > 0x0FFF),
            c := decide (x.toNat + y.toNat > 0xFFFF) })

/-- `SP + e8` (rules R143, R173): the flags are those of the unsigned addition of SP's low byte and the operand byte. -/
def addSpDisp (sp : Word) (e : Byte) : Word × Flags :=
  (sp + signExt e, { z := false, n := false,
                     h := decide (sp.toNat % 0x10 + low4 e > 0x0F),
                     c := decide (sp.toNat % 0x100 + e.toNat > 0xFF) })

/-! ## Rotates and shifts (every one moves by exactly one position, rule R196) -/

/-- The flags of a rotate or shift with result `w` and shifted-out bit `c` (rules R185 to R190, R192). -/
def shiftFlags (w : Byte) (c : Bool) : Flags := { z := decide (w = 0), n := false, h := false, c := c }

/-- RLC (rule R185). -/
def rlc8 (v : Byte) (_ : Flags) : Byte × Flags :=
  let w : Byte := v.extractLsb' 0 7 ++ BitVec.ofBool (v.getLsbD 7)
  (w, shiftFlags w (v.getLsbD 7))

/-- RRC (rule R186). -/
def rrc8 (v : Byte) (_ : Flags) : Byte × Flags :=
  let w : Byte := BitVec.ofBool (v.getLsbD 0) ++ v.extractLsb' 1 7
  (w, shiftFlags w (v.getLsbD 0))

/-- RL (rule R187). -/
def rl8 (v : Byte) (f : Flags) : Byte × Flags :=
  let w : Byte := v.extractLsb' 0 7 ++ BitVec.ofBool f.c
  (w, shiftFlags w (v.getLsbD 7))

/-- RR (rule R188). -/
def rr8 (v : Byte) (f : Flags) : Byte × Flags :=
  let w : Byte := BitVec.ofBool f.c ++ v.extractLsb' 1 7
  (w, shiftFlags w (v.getLsbD 0))

/-- SLA (rule R189). -/
def sla8 (v : Byte) (_ : Flags) : Byte × Flags :=
  let w : Byte := v.extractLsb' 0 7 ++ (0 : BitVec 1)
  (w, shiftFlags w (v.getLsbD 7))

/-- SRA (rule R190): bit 7 keeps its value. -/
def sra8 (v : Byte) (_ : Flags) : Byte × Flags :=
  let w : Byte := BitVec.ofBool (v.getLsbD 7) ++ v.extractLsb' 1 7
  (w, shiftFlags w (v.getLsbD 0))

/-- SWAP (rule R191): C cleared. -/
def swap8 (v : Byte) (_ : Flags) : Byte × Flags :=
  let w : Byte := v.extractLsb' 0 4 ++ v.extractLsb' 4 4
  (w, shiftFlags w false)

/-- SRL (rule R192). -/
def srl8 (v : Byte) (_ : Flags) : Byte × Flags :=
  let w : Byte := (0 : BitVec 1) ++ v.extractLsb' 1 7
  (w, shiftFlags w (v.getLsbD 0))

/-- The prefixed rotate or shift a selector names (rule R96). -/
def rot8 : RotOp → Byte → Flags → Byte × Flags
  | .rlc => rlc8
  | .rrc => rrc8
  | .rl => rl8
  | .rr => rr8
  | .sla => sla8
  | .sra => sra8
  | .swap => swap8
  | .srl => srl8

/-- The one-byte accumulator form of a rotate: Z forced to 0 (rules R180 to R183). -/
def accForm (op : Byte → Flags → Byte × Flags) (v : Byte) (f : Flags) : Byte × Flags :=
  ((op v f).1, { (op v f).2 with z := false })

/-! ## Bits -/

/-- `1 << b` as a byte. -/
def bitMask (b : Oct) : Byte := BitVec.ofNat 8 (2 ^ b.toNat)

/-- BIT (rule R193): Z set when the bit is 0, H set, C kept. -/
def bitFlags (b : Oct) (v : Byte) (f : Flags) : Flags := { z := !v.getLsbD b.toNat, n := false, h := true, c := f.c }

/-- RES (rule R194): no flag changed. -/
def res8 (b : Oct) (v : Byte) (f : Flags) : Byte × Flags := (v &&& (0xFF ^^^ bitMask b), f)

/-- SET (rule R195): no flag changed. -/
def set8 (b : Oct) (v : Byte) (f : Flags) : Byte × Flags := (v ||| bitMask b, f)

end Sys2Proof.Machine
end

