-- ==== Sys2Proof/Machine/Ops.lean ====
section
/-! DEFINITION. Machine/Ops.lean: the operations the meanings share: how an instruction ends, the stack (rule R8), the
interrupt controller (rules R231 to R234), taking an interrupt (rule R238) and returning from one (rules R210, R239). -/

namespace Sys2Proof.Config

/-- `CYC[op]` (rules R4, R102, R320). -/
def cost (c : Config) (op : Byte) : Nat := Machine.byteEntry 0 c.cyc op

/-- `CYC_CB[sub]` (rules R4, R102, R320). -/
def costCb (c : Config) (sub : Byte) : Nat := Machine.byteEntry 0 c.cycCb sub

/-- `CYC_TAKEN_EXTRA[op]` (rules R4, R200). -/
def takenExtra (c : Config) (op : Byte) : Nat := Sparse.get 0 c.cycTakenExtra op.toNat

end Sys2Proof.Config

namespace Sys2Proof.Machine

/-! ## How an instruction ends -/

/-- The body's result with the cycle count the step returns (rule R90), or the fault it met. -/
def finish (cycles : Nat) (r : Except Fault State) : Result :=
  match r with
  | .ok s => .next (s.setCycles cycles)
  | .error f => .fault f

/-- A conditional transfer with first byte `op` (rule R200): the body and `CYC[op]` plus `CYC_TAKEN_EXTRA[op]` when the
condition holds, nothing and `CYC[op]` when it does not. -/
def finishCond (cc : Cond) (op : Byte) (body : State → Except Fault State) (s : State) : Result :=
  if condHolds cc s.cpu.flags then finish (s.cfg.cost op + s.cfg.takenExtra op) (body s)
  else finish (s.cfg.cost op) (.ok s)

/-- A change of registers or flags after a part that may meet a fault. -/
def thenSet (r : Except Fault State) (f : State → State) : Except Fault State :=
  match r with
  | .ok s => .ok (f s)
  | .error x => .error x

/-! ## Sixteen-bit transfers -/

/-- `MemWrite(addr, 2, w)`: low byte first (rules R7, R65). -/
def busWrite16 (s : State) (a : Word) (w : Word) : Except Fault State :=
  match busWrite s a (loByte w) with
  | .ok s1 => busWrite s1 (a + 1) (hiByte w)
  | .error f => .error f

/-- `push16(w)` (rule R8): the high byte at the higher address, first. -/
def push16 (w : Word) (s : State) : Except Fault State :=
  match busWrite (s.setSp (s.cpu.sp - 1)) (s.cpu.sp - 1) (hiByte w) with
  | .ok s1 => busWrite (s1.setSp (s1.cpu.sp - 1)) (s1.cpu.sp - 1) (loByte w)
  | .error f => .error f

/-- `pop16()` (rule R8): the word and the state after it. -/
def pop16 (s : State) : Except Fault (Word × State) :=
  match busRead s s.cpu.sp with
  | .ok l =>
    match busRead s (s.cpu.sp + 1) with
    | .ok h => .ok (mkWord h l, s.setSp (s.cpu.sp + 1 + 1))
    | .error f => .error f
  | .error f => .error f

/-- `push16(pc); pc <- target` (rules R206, R211). -/
def callTo (target : Word) (s : State) : Except Fault State :=
  match push16 s.cpu.pc s with
  | .ok s1 => .ok (s1.setPc target)
  | .error f => .error f

/-- `pc <- pop16()` (rule R208). -/
def returnTo (s : State) : Except Fault State :=
  match pop16 s with
  | .ok (w, s1) => .ok (s1.setPc w)
  | .error f => .error f

/-! ## The interrupt controller -/

/-- The five sources in priority order (rule R231). -/
inductive Source where
  | vblank | stat | timer | serial | joypad
  deriving DecidableEq, Repr

/-- The source's bit in IF and IE (rule R231). -/
def Source.bit : Source → Nat
  | .vblank => 0
  | .stat => 1
  | .timer => 2
  | .serial => 3
  | .joypad => 4

/-- The source's mask (rule R231). -/
def Source.mask : Source → Byte
  | .vblank => 0x01
  | .stat => 0x02
  | .timer => 0x04
  | .serial => 0x08
  | .joypad => 0x10

/-- `VEC[i]` (rules R4, R231). -/
def Source.vector (v : Vectors) : Source → Word
  | .vblank => v.v0
  | .stat => v.v1
  | .timer => v.v2
  | .serial => v.v3
  | .joypad => v.v4

/-- `raise(sourceFlag)`: `IF <- IF OR mask` (rule R232). -/
def State.raise (s : State) (src : Source) : State := { s with ifReg := s.ifReg ||| src.mask }

/-- `IE AND IF` (rule R233). -/
def State.pendingByte (s : State) : Byte := s.ieReg &&& s.ifReg

/-- `hasPending()` (rule R233): on all 8 bits, independent of IME. -/
def State.hasPending (s : State) : Bool := decide (s.pendingByte ≠ 0)

/-- The first source in priority order whose bit is set (rule R234). -/
def firstSource (p : Byte) : Option Source :=
  if p.getLsbD 0 then some .vblank
  else if p.getLsbD 1 then some .stat
  else if p.getLsbD 2 then some .timer
  else if p.getLsbD 3 then some .serial
  else if p.getLsbD 4 then some .joypad
  else none

/-- `pendingVector()` (rule R234): the vector of the first pending source, whose request bit is cleared. -/
def pendingVector (s : State) : Except Fault (Word × State) :=
  match firstSource s.pendingByte with
  | some src => .ok (src.vector s.cfg.vec, { s with ifReg := s.ifReg &&& (0xFF ^^^ src.mask) })
  | none => .error .pendingWithoutSource

/-- Interrupt service, the machine's one exception entry (rule R238): IME cleared, `pc` pushed, `pc` set to the vector
of the highest-priority pending source and its request cleared, the penalty added to the step's count. -/
def takeInterrupt (s : State) : Except Fault State :=
  match push16 s.cpu.pc (s.setIme false) with
  | .ok s1 =>
    match pendingVector s1 with
    | .ok (v, s2) => .ok ((s2.setPc v).setCycles (s2.cycles + Config.intPenalty))
    | .error f => .error f
  | .error f => .error f

/-- Return from an interrupt (rules R210, R239): `pc <- pop16(); IME <- 1`. -/
def returnFromInterrupt (s : State) : Except Fault State :=
  match returnTo s with
  | .ok s1 => .ok (s1.setIme true)
  | .error f => .error f

/-- S3 of rule R235 (rule R237): a CPU that has just halted wakes at once when something is pending. -/
def wakeAfter (s : State) : State := if s.cpu.halted && s.hasPending then s.setHalted false else s

/-- S4 of rule R235: service when IME is set and something is pending. -/
def serviceCheck (s : State) : Except Fault State :=
  if s.cpu.ime && s.hasPending then takeInterrupt s else .ok s

/-- S3 to S5 of rule R235, after the instruction's effects. -/
def endOfInstruction (r : Result) : Result :=
  match r with
  | .next s =>
    match serviceCheck (wakeAfter s) with
    | .ok t => .next t
    | .error f => .fault f
  | .fault f => .fault f
  | .refused x => .refused x

end Sys2Proof.Machine
end

