-- ==== Sys2Proof/Machine/Alu16.lean ====
section
/-! DEFINITION. Machine/Alu16.lean: 16-bit arithmetic (rules R170 to R173). -/

namespace Sys2Proof.Machine

/-- `xx[HL] <- xx[HL] + w` with its flags (rule R170). -/
def addHl (w : Word) (s : State) : State :=
  (s.setHl (add16 s.hl w s.cpu.flags).1).setFlags (add16 s.hl w s.cpu.flags).2

/-- `sp <- sp + e8` with its flags (rule R173). -/
def spPlus (e : Byte) (s : State) : State :=
  (s.setSp (addSpDisp s.cpu.sp e).1).setFlags (addSpDisp s.cpu.sp e).2

/-! ## 16-bit arithmetic -/

/-- `INC BC` (R171). -/
def execIncBc (s : State) : Result := finish (s.cfg.cost 0x03) (.ok (s.setRr .bc (s.rr .bc + 1)))

/-- `ADD HL,BC` (R170). -/
def execAddHlBc (s : State) : Result := finish (s.cfg.cost 0x09) (.ok (addHl (s.rr .bc) s))

/-- `DEC BC` (R172). -/
def execDecBc (s : State) : Result := finish (s.cfg.cost 0x0B) (.ok (s.setRr .bc (s.rr .bc - 1)))

/-- `INC DE` (R171). -/
def execIncDe (s : State) : Result := finish (s.cfg.cost 0x13) (.ok (s.setRr .de (s.rr .de + 1)))

/-- `ADD HL,DE` (R170). -/
def execAddHlDe (s : State) : Result := finish (s.cfg.cost 0x19) (.ok (addHl (s.rr .de) s))

/-- `DEC DE` (R172). -/
def execDecDe (s : State) : Result := finish (s.cfg.cost 0x1B) (.ok (s.setRr .de (s.rr .de - 1)))

/-- `INC HL` (R171). -/
def execIncHl (s : State) : Result := finish (s.cfg.cost 0x23) (.ok (s.setRr .hl (s.rr .hl + 1)))

/-- `ADD HL,HL` (R170). -/
def execAddHlHl (s : State) : Result := finish (s.cfg.cost 0x29) (.ok (addHl (s.rr .hl) s))

/-- `DEC HL` (R172). -/
def execDecHl (s : State) : Result := finish (s.cfg.cost 0x2B) (.ok (s.setRr .hl (s.rr .hl - 1)))

/-- `INC SP` (R171). -/
def execIncSp (s : State) : Result := finish (s.cfg.cost 0x33) (.ok (s.setRr .sp (s.rr .sp + 1)))

/-- `ADD HL,SP` (R170). -/
def execAddHlSp (s : State) : Result := finish (s.cfg.cost 0x39) (.ok (addHl (s.rr .sp) s))

/-- `DEC SP` (R172). -/
def execDecSp (s : State) : Result := finish (s.cfg.cost 0x3B) (.ok (s.setRr .sp (s.rr .sp - 1)))

/-- `ADD SP,e8` (R173). -/
def execAddSpE8 (e8 : Byte) (s : State) : Result := finish (s.cfg.cost 0xE8) (.ok (spPlus e8 s))

end Sys2Proof.Machine
end

