-- ==== Sys2Proof/Machine/Alu8.lean ====
section
/-! DEFINITION. Machine/Alu8.lean: 8-bit arithmetic and logic (rules R150 to R166). -/

namespace Sys2Proof.Machine

/-- Writes A and the flags. -/
def setAFlags (r : Byte × Flags) (s : State) : State := (s.setReg .a r.1).setFlags r.2

/-- The eight operations on A and a second operand (rules R150 to R158); CP keeps A. -/
def aluA (op : AluOp) (v : Byte) (s : State) : State :=
  match op with
  | .add => setAFlags (add8 s.cpu.a v false) s
  | .adc => setAFlags (add8 s.cpu.a v s.cpu.flags.c) s
  | .sub => setAFlags (sub8 s.cpu.a v false) s
  | .sbc => setAFlags (sub8 s.cpu.a v s.cpu.flags.c) s
  | .and => setAFlags (and8 s.cpu.a v) s
  | .xor => setAFlags (xor8 s.cpu.a v) s
  | .or => setAFlags (or8 s.cpu.a v) s
  | .cp => s.setFlags (sub8 s.cpu.a v false).2

/-! ## ADD and ADC -/

/-- `ADD A,B` (R151). -/
def execAddAB (s : State) : Result := finish (s.cfg.cost 0x80) (withOperand (aluA .add) (.reg .b) s)

/-- `ADD A,C` (R151). -/
def execAddAC (s : State) : Result := finish (s.cfg.cost 0x81) (withOperand (aluA .add) (.reg .c) s)

/-- `ADD A,D` (R151). -/
def execAddAD (s : State) : Result := finish (s.cfg.cost 0x82) (withOperand (aluA .add) (.reg .d) s)

/-- `ADD A,E` (R151). -/
def execAddAE (s : State) : Result := finish (s.cfg.cost 0x83) (withOperand (aluA .add) (.reg .e) s)

/-- `ADD A,H` (R151). -/
def execAddAH (s : State) : Result := finish (s.cfg.cost 0x84) (withOperand (aluA .add) (.reg .h) s)

/-- `ADD A,L` (R151). -/
def execAddAL (s : State) : Result := finish (s.cfg.cost 0x85) (withOperand (aluA .add) (.reg .l) s)

/-- `ADD A,(HL)` (R151). -/
def execAddAMemHl (s : State) : Result := finish (s.cfg.cost 0x86) (withOperand (aluA .add) .memHl s)

/-- `ADD A,A` (R151). -/
def execAddAA (s : State) : Result := finish (s.cfg.cost 0x87) (withOperand (aluA .add) (.reg .a) s)

/-- `ADC A,B` (R152). -/
def execAdcAB (s : State) : Result := finish (s.cfg.cost 0x88) (withOperand (aluA .adc) (.reg .b) s)

/-- `ADC A,C` (R152). -/
def execAdcAC (s : State) : Result := finish (s.cfg.cost 0x89) (withOperand (aluA .adc) (.reg .c) s)

/-- `ADC A,D` (R152). -/
def execAdcAD (s : State) : Result := finish (s.cfg.cost 0x8A) (withOperand (aluA .adc) (.reg .d) s)

/-- `ADC A,E` (R152). -/
def execAdcAE (s : State) : Result := finish (s.cfg.cost 0x8B) (withOperand (aluA .adc) (.reg .e) s)

/-- `ADC A,H` (R152). -/
def execAdcAH (s : State) : Result := finish (s.cfg.cost 0x8C) (withOperand (aluA .adc) (.reg .h) s)

/-- `ADC A,L` (R152). -/
def execAdcAL (s : State) : Result := finish (s.cfg.cost 0x8D) (withOperand (aluA .adc) (.reg .l) s)

/-- `ADC A,(HL)` (R152). -/
def execAdcAMemHl (s : State) : Result := finish (s.cfg.cost 0x8E) (withOperand (aluA .adc) .memHl s)

/-- `ADC A,A` (R152). -/
def execAdcAA (s : State) : Result := finish (s.cfg.cost 0x8F) (withOperand (aluA .adc) (.reg .a) s)

/-- `ADD A,d8` (R151). -/
def execAddAD8 (d8 : Byte) (s : State) : Result := finish (s.cfg.cost 0xC6) (.ok (aluA .add d8 s))

/-- `ADC A,d8` (R152). -/
def execAdcAD8 (d8 : Byte) (s : State) : Result := finish (s.cfg.cost 0xCE) (.ok (aluA .adc d8 s))

/-! ## SUB, SBC and CP -/

/-- `SUB B` (R153). -/
def execSubB (s : State) : Result := finish (s.cfg.cost 0x90) (withOperand (aluA .sub) (.reg .b) s)

/-- `SUB C` (R153). -/
def execSubC (s : State) : Result := finish (s.cfg.cost 0x91) (withOperand (aluA .sub) (.reg .c) s)

/-- `SUB D` (R153). -/
def execSubD (s : State) : Result := finish (s.cfg.cost 0x92) (withOperand (aluA .sub) (.reg .d) s)

/-- `SUB E` (R153). -/
def execSubE (s : State) : Result := finish (s.cfg.cost 0x93) (withOperand (aluA .sub) (.reg .e) s)

/-- `SUB H` (R153). -/
def execSubH (s : State) : Result := finish (s.cfg.cost 0x94) (withOperand (aluA .sub) (.reg .h) s)

/-- `SUB L` (R153). -/
def execSubL (s : State) : Result := finish (s.cfg.cost 0x95) (withOperand (aluA .sub) (.reg .l) s)

/-- `SUB (HL)` (R153). -/
def execSubMemHl (s : State) : Result := finish (s.cfg.cost 0x96) (withOperand (aluA .sub) .memHl s)

/-- `SUB A` (R153). -/
def execSubA (s : State) : Result := finish (s.cfg.cost 0x97) (withOperand (aluA .sub) (.reg .a) s)

/-- `SBC A,B` (R154). -/
def execSbcAB (s : State) : Result := finish (s.cfg.cost 0x98) (withOperand (aluA .sbc) (.reg .b) s)

/-- `SBC A,C` (R154). -/
def execSbcAC (s : State) : Result := finish (s.cfg.cost 0x99) (withOperand (aluA .sbc) (.reg .c) s)

/-- `SBC A,D` (R154). -/
def execSbcAD (s : State) : Result := finish (s.cfg.cost 0x9A) (withOperand (aluA .sbc) (.reg .d) s)

/-- `SBC A,E` (R154). -/
def execSbcAE (s : State) : Result := finish (s.cfg.cost 0x9B) (withOperand (aluA .sbc) (.reg .e) s)

/-- `SBC A,H` (R154). -/
def execSbcAH (s : State) : Result := finish (s.cfg.cost 0x9C) (withOperand (aluA .sbc) (.reg .h) s)

/-- `SBC A,L` (R154). -/
def execSbcAL (s : State) : Result := finish (s.cfg.cost 0x9D) (withOperand (aluA .sbc) (.reg .l) s)

/-- `SBC A,(HL)` (R154). -/
def execSbcAMemHl (s : State) : Result := finish (s.cfg.cost 0x9E) (withOperand (aluA .sbc) .memHl s)

/-- `SBC A,A` (R154). -/
def execSbcAA (s : State) : Result := finish (s.cfg.cost 0x9F) (withOperand (aluA .sbc) (.reg .a) s)

/-- `CP B` (R158). -/
def execCpB (s : State) : Result := finish (s.cfg.cost 0xB8) (withOperand (aluA .cp) (.reg .b) s)

/-- `CP C` (R158). -/
def execCpC (s : State) : Result := finish (s.cfg.cost 0xB9) (withOperand (aluA .cp) (.reg .c) s)

/-- `CP D` (R158). -/
def execCpD (s : State) : Result := finish (s.cfg.cost 0xBA) (withOperand (aluA .cp) (.reg .d) s)

/-- `CP E` (R158). -/
def execCpE (s : State) : Result := finish (s.cfg.cost 0xBB) (withOperand (aluA .cp) (.reg .e) s)

/-- `CP H` (R158). -/
def execCpH (s : State) : Result := finish (s.cfg.cost 0xBC) (withOperand (aluA .cp) (.reg .h) s)

/-- `CP L` (R158). -/
def execCpL (s : State) : Result := finish (s.cfg.cost 0xBD) (withOperand (aluA .cp) (.reg .l) s)

/-- `CP (HL)` (R158). -/
def execCpMemHl (s : State) : Result := finish (s.cfg.cost 0xBE) (withOperand (aluA .cp) .memHl s)

/-- `CP A` (R158). -/
def execCpA (s : State) : Result := finish (s.cfg.cost 0xBF) (withOperand (aluA .cp) (.reg .a) s)

/-- `SUB d8` (R153). -/
def execSubD8 (d8 : Byte) (s : State) : Result := finish (s.cfg.cost 0xD6) (.ok (aluA .sub d8 s))

/-- `SBC A,d8` (R154). -/
def execSbcAD8 (d8 : Byte) (s : State) : Result := finish (s.cfg.cost 0xDE) (.ok (aluA .sbc d8 s))

/-- `CP d8` (R158). -/
def execCpD8 (d8 : Byte) (s : State) : Result := finish (s.cfg.cost 0xFE) (.ok (aluA .cp d8 s))

/-! ## AND, XOR and OR -/

/-- `AND B` (R155). -/
def execAndB (s : State) : Result := finish (s.cfg.cost 0xA0) (withOperand (aluA .and) (.reg .b) s)

/-- `AND C` (R155). -/
def execAndC (s : State) : Result := finish (s.cfg.cost 0xA1) (withOperand (aluA .and) (.reg .c) s)

/-- `AND D` (R155). -/
def execAndD (s : State) : Result := finish (s.cfg.cost 0xA2) (withOperand (aluA .and) (.reg .d) s)

/-- `AND E` (R155). -/
def execAndE (s : State) : Result := finish (s.cfg.cost 0xA3) (withOperand (aluA .and) (.reg .e) s)

/-- `AND H` (R155). -/
def execAndH (s : State) : Result := finish (s.cfg.cost 0xA4) (withOperand (aluA .and) (.reg .h) s)

/-- `AND L` (R155). -/
def execAndL (s : State) : Result := finish (s.cfg.cost 0xA5) (withOperand (aluA .and) (.reg .l) s)

/-- `AND (HL)` (R155). -/
def execAndMemHl (s : State) : Result := finish (s.cfg.cost 0xA6) (withOperand (aluA .and) .memHl s)

/-- `AND A` (R155). -/
def execAndA (s : State) : Result := finish (s.cfg.cost 0xA7) (withOperand (aluA .and) (.reg .a) s)

/-- `XOR B` (R156). -/
def execXorB (s : State) : Result := finish (s.cfg.cost 0xA8) (withOperand (aluA .xor) (.reg .b) s)

/-- `XOR C` (R156). -/
def execXorC (s : State) : Result := finish (s.cfg.cost 0xA9) (withOperand (aluA .xor) (.reg .c) s)

/-- `XOR D` (R156). -/
def execXorD (s : State) : Result := finish (s.cfg.cost 0xAA) (withOperand (aluA .xor) (.reg .d) s)

/-- `XOR E` (R156). -/
def execXorE (s : State) : Result := finish (s.cfg.cost 0xAB) (withOperand (aluA .xor) (.reg .e) s)

/-- `XOR H` (R156). -/
def execXorH (s : State) : Result := finish (s.cfg.cost 0xAC) (withOperand (aluA .xor) (.reg .h) s)

/-- `XOR L` (R156). -/
def execXorL (s : State) : Result := finish (s.cfg.cost 0xAD) (withOperand (aluA .xor) (.reg .l) s)

/-- `XOR (HL)` (R156). -/
def execXorMemHl (s : State) : Result := finish (s.cfg.cost 0xAE) (withOperand (aluA .xor) .memHl s)

/-- `XOR A` (R156). -/
def execXorA (s : State) : Result := finish (s.cfg.cost 0xAF) (withOperand (aluA .xor) (.reg .a) s)

/-- `OR B` (R157). -/
def execOrB (s : State) : Result := finish (s.cfg.cost 0xB0) (withOperand (aluA .or) (.reg .b) s)

/-- `OR C` (R157). -/
def execOrC (s : State) : Result := finish (s.cfg.cost 0xB1) (withOperand (aluA .or) (.reg .c) s)

/-- `OR D` (R157). -/
def execOrD (s : State) : Result := finish (s.cfg.cost 0xB2) (withOperand (aluA .or) (.reg .d) s)

/-- `OR E` (R157). -/
def execOrE (s : State) : Result := finish (s.cfg.cost 0xB3) (withOperand (aluA .or) (.reg .e) s)

/-- `OR H` (R157). -/
def execOrH (s : State) : Result := finish (s.cfg.cost 0xB4) (withOperand (aluA .or) (.reg .h) s)

/-- `OR L` (R157). -/
def execOrL (s : State) : Result := finish (s.cfg.cost 0xB5) (withOperand (aluA .or) (.reg .l) s)

/-- `OR (HL)` (R157). -/
def execOrMemHl (s : State) : Result := finish (s.cfg.cost 0xB6) (withOperand (aluA .or) .memHl s)

/-- `OR A` (R157). -/
def execOrA (s : State) : Result := finish (s.cfg.cost 0xB7) (withOperand (aluA .or) (.reg .a) s)

/-- `AND d8` (R155). -/
def execAndD8 (d8 : Byte) (s : State) : Result := finish (s.cfg.cost 0xE6) (.ok (aluA .and d8 s))

/-- `XOR d8` (R156). -/
def execXorD8 (d8 : Byte) (s : State) : Result := finish (s.cfg.cost 0xEE) (.ok (aluA .xor d8 s))

/-- `OR d8` (R157). -/
def execOrD8 (d8 : Byte) (s : State) : Result := finish (s.cfg.cost 0xF6) (.ok (aluA .or d8 s))

/-! ## INC and DEC -/

/-- `INC B` (R159). -/
def execIncB (s : State) : Result := finish (s.cfg.cost 0x04) (modifyOperand inc8 (.reg .b) s)

/-- `DEC B` (R161). -/
def execDecB (s : State) : Result := finish (s.cfg.cost 0x05) (modifyOperand dec8 (.reg .b) s)

/-- `INC C` (R159). -/
def execIncC (s : State) : Result := finish (s.cfg.cost 0x0C) (modifyOperand inc8 (.reg .c) s)

/-- `DEC C` (R161). -/
def execDecC (s : State) : Result := finish (s.cfg.cost 0x0D) (modifyOperand dec8 (.reg .c) s)

/-- `INC D` (R159). -/
def execIncD (s : State) : Result := finish (s.cfg.cost 0x14) (modifyOperand inc8 (.reg .d) s)

/-- `DEC D` (R161). -/
def execDecD (s : State) : Result := finish (s.cfg.cost 0x15) (modifyOperand dec8 (.reg .d) s)

/-- `INC E` (R159). -/
def execIncE (s : State) : Result := finish (s.cfg.cost 0x1C) (modifyOperand inc8 (.reg .e) s)

/-- `DEC E` (R161). -/
def execDecE (s : State) : Result := finish (s.cfg.cost 0x1D) (modifyOperand dec8 (.reg .e) s)

/-- `INC H` (R159). -/
def execIncH (s : State) : Result := finish (s.cfg.cost 0x24) (modifyOperand inc8 (.reg .h) s)

/-- `DEC H` (R161). -/
def execDecH (s : State) : Result := finish (s.cfg.cost 0x25) (modifyOperand dec8 (.reg .h) s)

/-- `INC L` (R159). -/
def execIncL (s : State) : Result := finish (s.cfg.cost 0x2C) (modifyOperand inc8 (.reg .l) s)

/-- `DEC L` (R161). -/
def execDecL (s : State) : Result := finish (s.cfg.cost 0x2D) (modifyOperand dec8 (.reg .l) s)

/-- `INC (HL)` (R160). -/
def execIncMemHl (s : State) : Result := finish (s.cfg.cost 0x34) (modifyOperand inc8 .memHl s)

/-- `DEC (HL)` (R162). -/
def execDecMemHl (s : State) : Result := finish (s.cfg.cost 0x35) (modifyOperand dec8 .memHl s)

/-- `INC A` (R159). -/
def execIncA (s : State) : Result := finish (s.cfg.cost 0x3C) (modifyOperand inc8 (.reg .a) s)

/-- `DEC A` (R161). -/
def execDecA (s : State) : Result := finish (s.cfg.cost 0x3D) (modifyOperand dec8 (.reg .a) s)

/-! ## DAA, CPL, SCF, CCF -/

/-- `DAA` (R163). -/
def execDaa (s : State) : Result := finish (s.cfg.cost 0x27) (modifyOperand daa8 (.reg .a) s)

/-- `CPL` (R164). -/
def execCpl (s : State) : Result := finish (s.cfg.cost 0x2F) (modifyOperand cpl8 (.reg .a) s)

/-- `SCF` (R165). -/
def execScf (s : State) : Result := finish (s.cfg.cost 0x37) (.ok (s.setFlags (scfFlags s.cpu.flags)))

/-- `CCF` (R166). -/
def execCcf (s : State) : Result := finish (s.cfg.cost 0x3F) (.ok (s.setFlags (ccfFlags s.cpu.flags)))

end Sys2Proof.Machine
end

