-- ==== Sys2Proof/Machine/BitOps.lean ====
section
/-! DEFINITION. Machine/BitOps.lean: the prefixed bit instructions (rules R193 to R195). -/

namespace Sys2Proof.Machine

/-- BIT: the flags only (rule R193). -/
def bitTest (b : Oct) (v : Byte) (s : State) : State := s.setFlags (bitFlags b v s.cpu.flags)

/-! ## BIT -/

/-- `BIT 0,B` (R193). -/
def execBit0B (s : State) : Result := finish (s.cfg.costCb 0x40) (withOperand (bitTest .o0) (.reg .b) s)

/-- `BIT 0,C` (R193). -/
def execBit0C (s : State) : Result := finish (s.cfg.costCb 0x41) (withOperand (bitTest .o0) (.reg .c) s)

/-- `BIT 0,D` (R193). -/
def execBit0D (s : State) : Result := finish (s.cfg.costCb 0x42) (withOperand (bitTest .o0) (.reg .d) s)

/-- `BIT 0,E` (R193). -/
def execBit0E (s : State) : Result := finish (s.cfg.costCb 0x43) (withOperand (bitTest .o0) (.reg .e) s)

/-- `BIT 0,H` (R193). -/
def execBit0H (s : State) : Result := finish (s.cfg.costCb 0x44) (withOperand (bitTest .o0) (.reg .h) s)

/-- `BIT 0,L` (R193). -/
def execBit0L (s : State) : Result := finish (s.cfg.costCb 0x45) (withOperand (bitTest .o0) (.reg .l) s)

/-- `BIT 0,(HL)` (R193). -/
def execBit0MemHl (s : State) : Result := finish (s.cfg.costCb 0x46) (withOperand (bitTest .o0) .memHl s)

/-- `BIT 0,A` (R193). -/
def execBit0A (s : State) : Result := finish (s.cfg.costCb 0x47) (withOperand (bitTest .o0) (.reg .a) s)

/-- `BIT 1,B` (R193). -/
def execBit1B (s : State) : Result := finish (s.cfg.costCb 0x48) (withOperand (bitTest .o1) (.reg .b) s)

/-- `BIT 1,C` (R193). -/
def execBit1C (s : State) : Result := finish (s.cfg.costCb 0x49) (withOperand (bitTest .o1) (.reg .c) s)

/-- `BIT 1,D` (R193). -/
def execBit1D (s : State) : Result := finish (s.cfg.costCb 0x4A) (withOperand (bitTest .o1) (.reg .d) s)

/-- `BIT 1,E` (R193). -/
def execBit1E (s : State) : Result := finish (s.cfg.costCb 0x4B) (withOperand (bitTest .o1) (.reg .e) s)

/-- `BIT 1,H` (R193). -/
def execBit1H (s : State) : Result := finish (s.cfg.costCb 0x4C) (withOperand (bitTest .o1) (.reg .h) s)

/-- `BIT 1,L` (R193). -/
def execBit1L (s : State) : Result := finish (s.cfg.costCb 0x4D) (withOperand (bitTest .o1) (.reg .l) s)

/-- `BIT 1,(HL)` (R193). -/
def execBit1MemHl (s : State) : Result := finish (s.cfg.costCb 0x4E) (withOperand (bitTest .o1) .memHl s)

/-- `BIT 1,A` (R193). -/
def execBit1A (s : State) : Result := finish (s.cfg.costCb 0x4F) (withOperand (bitTest .o1) (.reg .a) s)

/-- `BIT 2,B` (R193). -/
def execBit2B (s : State) : Result := finish (s.cfg.costCb 0x50) (withOperand (bitTest .o2) (.reg .b) s)

/-- `BIT 2,C` (R193). -/
def execBit2C (s : State) : Result := finish (s.cfg.costCb 0x51) (withOperand (bitTest .o2) (.reg .c) s)

/-- `BIT 2,D` (R193). -/
def execBit2D (s : State) : Result := finish (s.cfg.costCb 0x52) (withOperand (bitTest .o2) (.reg .d) s)

/-- `BIT 2,E` (R193). -/
def execBit2E (s : State) : Result := finish (s.cfg.costCb 0x53) (withOperand (bitTest .o2) (.reg .e) s)

/-- `BIT 2,H` (R193). -/
def execBit2H (s : State) : Result := finish (s.cfg.costCb 0x54) (withOperand (bitTest .o2) (.reg .h) s)

/-- `BIT 2,L` (R193). -/
def execBit2L (s : State) : Result := finish (s.cfg.costCb 0x55) (withOperand (bitTest .o2) (.reg .l) s)

/-- `BIT 2,(HL)` (R193). -/
def execBit2MemHl (s : State) : Result := finish (s.cfg.costCb 0x56) (withOperand (bitTest .o2) .memHl s)

/-- `BIT 2,A` (R193). -/
def execBit2A (s : State) : Result := finish (s.cfg.costCb 0x57) (withOperand (bitTest .o2) (.reg .a) s)

/-- `BIT 3,B` (R193). -/
def execBit3B (s : State) : Result := finish (s.cfg.costCb 0x58) (withOperand (bitTest .o3) (.reg .b) s)

/-- `BIT 3,C` (R193). -/
def execBit3C (s : State) : Result := finish (s.cfg.costCb 0x59) (withOperand (bitTest .o3) (.reg .c) s)

/-- `BIT 3,D` (R193). -/
def execBit3D (s : State) : Result := finish (s.cfg.costCb 0x5A) (withOperand (bitTest .o3) (.reg .d) s)

/-- `BIT 3,E` (R193). -/
def execBit3E (s : State) : Result := finish (s.cfg.costCb 0x5B) (withOperand (bitTest .o3) (.reg .e) s)

/-- `BIT 3,H` (R193). -/
def execBit3H (s : State) : Result := finish (s.cfg.costCb 0x5C) (withOperand (bitTest .o3) (.reg .h) s)

/-- `BIT 3,L` (R193). -/
def execBit3L (s : State) : Result := finish (s.cfg.costCb 0x5D) (withOperand (bitTest .o3) (.reg .l) s)

/-- `BIT 3,(HL)` (R193). -/
def execBit3MemHl (s : State) : Result := finish (s.cfg.costCb 0x5E) (withOperand (bitTest .o3) .memHl s)

/-- `BIT 3,A` (R193). -/
def execBit3A (s : State) : Result := finish (s.cfg.costCb 0x5F) (withOperand (bitTest .o3) (.reg .a) s)

/-- `BIT 4,B` (R193). -/
def execBit4B (s : State) : Result := finish (s.cfg.costCb 0x60) (withOperand (bitTest .o4) (.reg .b) s)

/-- `BIT 4,C` (R193). -/
def execBit4C (s : State) : Result := finish (s.cfg.costCb 0x61) (withOperand (bitTest .o4) (.reg .c) s)

/-- `BIT 4,D` (R193). -/
def execBit4D (s : State) : Result := finish (s.cfg.costCb 0x62) (withOperand (bitTest .o4) (.reg .d) s)

/-- `BIT 4,E` (R193). -/
def execBit4E (s : State) : Result := finish (s.cfg.costCb 0x63) (withOperand (bitTest .o4) (.reg .e) s)

/-- `BIT 4,H` (R193). -/
def execBit4H (s : State) : Result := finish (s.cfg.costCb 0x64) (withOperand (bitTest .o4) (.reg .h) s)

/-- `BIT 4,L` (R193). -/
def execBit4L (s : State) : Result := finish (s.cfg.costCb 0x65) (withOperand (bitTest .o4) (.reg .l) s)

/-- `BIT 4,(HL)` (R193). -/
def execBit4MemHl (s : State) : Result := finish (s.cfg.costCb 0x66) (withOperand (bitTest .o4) .memHl s)

/-- `BIT 4,A` (R193). -/
def execBit4A (s : State) : Result := finish (s.cfg.costCb 0x67) (withOperand (bitTest .o4) (.reg .a) s)

/-- `BIT 5,B` (R193). -/
def execBit5B (s : State) : Result := finish (s.cfg.costCb 0x68) (withOperand (bitTest .o5) (.reg .b) s)

/-- `BIT 5,C` (R193). -/
def execBit5C (s : State) : Result := finish (s.cfg.costCb 0x69) (withOperand (bitTest .o5) (.reg .c) s)

/-- `BIT 5,D` (R193). -/
def execBit5D (s : State) : Result := finish (s.cfg.costCb 0x6A) (withOperand (bitTest .o5) (.reg .d) s)

/-- `BIT 5,E` (R193). -/
def execBit5E (s : State) : Result := finish (s.cfg.costCb 0x6B) (withOperand (bitTest .o5) (.reg .e) s)

/-- `BIT 5,H` (R193). -/
def execBit5H (s : State) : Result := finish (s.cfg.costCb 0x6C) (withOperand (bitTest .o5) (.reg .h) s)

/-- `BIT 5,L` (R193). -/
def execBit5L (s : State) : Result := finish (s.cfg.costCb 0x6D) (withOperand (bitTest .o5) (.reg .l) s)

/-- `BIT 5,(HL)` (R193). -/
def execBit5MemHl (s : State) : Result := finish (s.cfg.costCb 0x6E) (withOperand (bitTest .o5) .memHl s)

/-- `BIT 5,A` (R193). -/
def execBit5A (s : State) : Result := finish (s.cfg.costCb 0x6F) (withOperand (bitTest .o5) (.reg .a) s)

/-- `BIT 6,B` (R193). -/
def execBit6B (s : State) : Result := finish (s.cfg.costCb 0x70) (withOperand (bitTest .o6) (.reg .b) s)

/-- `BIT 6,C` (R193). -/
def execBit6C (s : State) : Result := finish (s.cfg.costCb 0x71) (withOperand (bitTest .o6) (.reg .c) s)

/-- `BIT 6,D` (R193). -/
def execBit6D (s : State) : Result := finish (s.cfg.costCb 0x72) (withOperand (bitTest .o6) (.reg .d) s)

/-- `BIT 6,E` (R193). -/
def execBit6E (s : State) : Result := finish (s.cfg.costCb 0x73) (withOperand (bitTest .o6) (.reg .e) s)

/-- `BIT 6,H` (R193). -/
def execBit6H (s : State) : Result := finish (s.cfg.costCb 0x74) (withOperand (bitTest .o6) (.reg .h) s)

/-- `BIT 6,L` (R193). -/
def execBit6L (s : State) : Result := finish (s.cfg.costCb 0x75) (withOperand (bitTest .o6) (.reg .l) s)

/-- `BIT 6,(HL)` (R193). -/
def execBit6MemHl (s : State) : Result := finish (s.cfg.costCb 0x76) (withOperand (bitTest .o6) .memHl s)

/-- `BIT 6,A` (R193). -/
def execBit6A (s : State) : Result := finish (s.cfg.costCb 0x77) (withOperand (bitTest .o6) (.reg .a) s)

/-- `BIT 7,B` (R193). -/
def execBit7B (s : State) : Result := finish (s.cfg.costCb 0x78) (withOperand (bitTest .o7) (.reg .b) s)

/-- `BIT 7,C` (R193). -/
def execBit7C (s : State) : Result := finish (s.cfg.costCb 0x79) (withOperand (bitTest .o7) (.reg .c) s)

/-- `BIT 7,D` (R193). -/
def execBit7D (s : State) : Result := finish (s.cfg.costCb 0x7A) (withOperand (bitTest .o7) (.reg .d) s)

/-- `BIT 7,E` (R193). -/
def execBit7E (s : State) : Result := finish (s.cfg.costCb 0x7B) (withOperand (bitTest .o7) (.reg .e) s)

/-- `BIT 7,H` (R193). -/
def execBit7H (s : State) : Result := finish (s.cfg.costCb 0x7C) (withOperand (bitTest .o7) (.reg .h) s)

/-- `BIT 7,L` (R193). -/
def execBit7L (s : State) : Result := finish (s.cfg.costCb 0x7D) (withOperand (bitTest .o7) (.reg .l) s)

/-- `BIT 7,(HL)` (R193). -/
def execBit7MemHl (s : State) : Result := finish (s.cfg.costCb 0x7E) (withOperand (bitTest .o7) .memHl s)

/-- `BIT 7,A` (R193). -/
def execBit7A (s : State) : Result := finish (s.cfg.costCb 0x7F) (withOperand (bitTest .o7) (.reg .a) s)

/-! ## RES -/

/-- `RES 0,B` (R194). -/
def execRes0B (s : State) : Result := finish (s.cfg.costCb 0x80) (modifyOperand (res8 .o0) (.reg .b) s)

/-- `RES 0,C` (R194). -/
def execRes0C (s : State) : Result := finish (s.cfg.costCb 0x81) (modifyOperand (res8 .o0) (.reg .c) s)

/-- `RES 0,D` (R194). -/
def execRes0D (s : State) : Result := finish (s.cfg.costCb 0x82) (modifyOperand (res8 .o0) (.reg .d) s)

/-- `RES 0,E` (R194). -/
def execRes0E (s : State) : Result := finish (s.cfg.costCb 0x83) (modifyOperand (res8 .o0) (.reg .e) s)

/-- `RES 0,H` (R194). -/
def execRes0H (s : State) : Result := finish (s.cfg.costCb 0x84) (modifyOperand (res8 .o0) (.reg .h) s)

/-- `RES 0,L` (R194). -/
def execRes0L (s : State) : Result := finish (s.cfg.costCb 0x85) (modifyOperand (res8 .o0) (.reg .l) s)

/-- `RES 0,(HL)` (R194). -/
def execRes0MemHl (s : State) : Result := finish (s.cfg.costCb 0x86) (modifyOperand (res8 .o0) .memHl s)

/-- `RES 0,A` (R194). -/
def execRes0A (s : State) : Result := finish (s.cfg.costCb 0x87) (modifyOperand (res8 .o0) (.reg .a) s)

/-- `RES 1,B` (R194). -/
def execRes1B (s : State) : Result := finish (s.cfg.costCb 0x88) (modifyOperand (res8 .o1) (.reg .b) s)

/-- `RES 1,C` (R194). -/
def execRes1C (s : State) : Result := finish (s.cfg.costCb 0x89) (modifyOperand (res8 .o1) (.reg .c) s)

/-- `RES 1,D` (R194). -/
def execRes1D (s : State) : Result := finish (s.cfg.costCb 0x8A) (modifyOperand (res8 .o1) (.reg .d) s)

/-- `RES 1,E` (R194). -/
def execRes1E (s : State) : Result := finish (s.cfg.costCb 0x8B) (modifyOperand (res8 .o1) (.reg .e) s)

/-- `RES 1,H` (R194). -/
def execRes1H (s : State) : Result := finish (s.cfg.costCb 0x8C) (modifyOperand (res8 .o1) (.reg .h) s)

/-- `RES 1,L` (R194). -/
def execRes1L (s : State) : Result := finish (s.cfg.costCb 0x8D) (modifyOperand (res8 .o1) (.reg .l) s)

/-- `RES 1,(HL)` (R194). -/
def execRes1MemHl (s : State) : Result := finish (s.cfg.costCb 0x8E) (modifyOperand (res8 .o1) .memHl s)

/-- `RES 1,A` (R194). -/
def execRes1A (s : State) : Result := finish (s.cfg.costCb 0x8F) (modifyOperand (res8 .o1) (.reg .a) s)

/-- `RES 2,B` (R194). -/
def execRes2B (s : State) : Result := finish (s.cfg.costCb 0x90) (modifyOperand (res8 .o2) (.reg .b) s)

/-- `RES 2,C` (R194). -/
def execRes2C (s : State) : Result := finish (s.cfg.costCb 0x91) (modifyOperand (res8 .o2) (.reg .c) s)

/-- `RES 2,D` (R194). -/
def execRes2D (s : State) : Result := finish (s.cfg.costCb 0x92) (modifyOperand (res8 .o2) (.reg .d) s)

/-- `RES 2,E` (R194). -/
def execRes2E (s : State) : Result := finish (s.cfg.costCb 0x93) (modifyOperand (res8 .o2) (.reg .e) s)

/-- `RES 2,H` (R194). -/
def execRes2H (s : State) : Result := finish (s.cfg.costCb 0x94) (modifyOperand (res8 .o2) (.reg .h) s)

/-- `RES 2,L` (R194). -/
def execRes2L (s : State) : Result := finish (s.cfg.costCb 0x95) (modifyOperand (res8 .o2) (.reg .l) s)

/-- `RES 2,(HL)` (R194). -/
def execRes2MemHl (s : State) : Result := finish (s.cfg.costCb 0x96) (modifyOperand (res8 .o2) .memHl s)

/-- `RES 2,A` (R194). -/
def execRes2A (s : State) : Result := finish (s.cfg.costCb 0x97) (modifyOperand (res8 .o2) (.reg .a) s)

/-- `RES 3,B` (R194). -/
def execRes3B (s : State) : Result := finish (s.cfg.costCb 0x98) (modifyOperand (res8 .o3) (.reg .b) s)

/-- `RES 3,C` (R194). -/
def execRes3C (s : State) : Result := finish (s.cfg.costCb 0x99) (modifyOperand (res8 .o3) (.reg .c) s)

/-- `RES 3,D` (R194). -/
def execRes3D (s : State) : Result := finish (s.cfg.costCb 0x9A) (modifyOperand (res8 .o3) (.reg .d) s)

/-- `RES 3,E` (R194). -/
def execRes3E (s : State) : Result := finish (s.cfg.costCb 0x9B) (modifyOperand (res8 .o3) (.reg .e) s)

/-- `RES 3,H` (R194). -/
def execRes3H (s : State) : Result := finish (s.cfg.costCb 0x9C) (modifyOperand (res8 .o3) (.reg .h) s)

/-- `RES 3,L` (R194). -/
def execRes3L (s : State) : Result := finish (s.cfg.costCb 0x9D) (modifyOperand (res8 .o3) (.reg .l) s)

/-- `RES 3,(HL)` (R194). -/
def execRes3MemHl (s : State) : Result := finish (s.cfg.costCb 0x9E) (modifyOperand (res8 .o3) .memHl s)

/-- `RES 3,A` (R194). -/
def execRes3A (s : State) : Result := finish (s.cfg.costCb 0x9F) (modifyOperand (res8 .o3) (.reg .a) s)

/-- `RES 4,B` (R194). -/
def execRes4B (s : State) : Result := finish (s.cfg.costCb 0xA0) (modifyOperand (res8 .o4) (.reg .b) s)

/-- `RES 4,C` (R194). -/
def execRes4C (s : State) : Result := finish (s.cfg.costCb 0xA1) (modifyOperand (res8 .o4) (.reg .c) s)

/-- `RES 4,D` (R194). -/
def execRes4D (s : State) : Result := finish (s.cfg.costCb 0xA2) (modifyOperand (res8 .o4) (.reg .d) s)

/-- `RES 4,E` (R194). -/
def execRes4E (s : State) : Result := finish (s.cfg.costCb 0xA3) (modifyOperand (res8 .o4) (.reg .e) s)

/-- `RES 4,H` (R194). -/
def execRes4H (s : State) : Result := finish (s.cfg.costCb 0xA4) (modifyOperand (res8 .o4) (.reg .h) s)

/-- `RES 4,L` (R194). -/
def execRes4L (s : State) : Result := finish (s.cfg.costCb 0xA5) (modifyOperand (res8 .o4) (.reg .l) s)

/-- `RES 4,(HL)` (R194). -/
def execRes4MemHl (s : State) : Result := finish (s.cfg.costCb 0xA6) (modifyOperand (res8 .o4) .memHl s)

/-- `RES 4,A` (R194). -/
def execRes4A (s : State) : Result := finish (s.cfg.costCb 0xA7) (modifyOperand (res8 .o4) (.reg .a) s)

/-- `RES 5,B` (R194). -/
def execRes5B (s : State) : Result := finish (s.cfg.costCb 0xA8) (modifyOperand (res8 .o5) (.reg .b) s)

/-- `RES 5,C` (R194). -/
def execRes5C (s : State) : Result := finish (s.cfg.costCb 0xA9) (modifyOperand (res8 .o5) (.reg .c) s)

/-- `RES 5,D` (R194). -/
def execRes5D (s : State) : Result := finish (s.cfg.costCb 0xAA) (modifyOperand (res8 .o5) (.reg .d) s)

/-- `RES 5,E` (R194). -/
def execRes5E (s : State) : Result := finish (s.cfg.costCb 0xAB) (modifyOperand (res8 .o5) (.reg .e) s)

/-- `RES 5,H` (R194). -/
def execRes5H (s : State) : Result := finish (s.cfg.costCb 0xAC) (modifyOperand (res8 .o5) (.reg .h) s)

/-- `RES 5,L` (R194). -/
def execRes5L (s : State) : Result := finish (s.cfg.costCb 0xAD) (modifyOperand (res8 .o5) (.reg .l) s)

/-- `RES 5,(HL)` (R194). -/
def execRes5MemHl (s : State) : Result := finish (s.cfg.costCb 0xAE) (modifyOperand (res8 .o5) .memHl s)

/-- `RES 5,A` (R194). -/
def execRes5A (s : State) : Result := finish (s.cfg.costCb 0xAF) (modifyOperand (res8 .o5) (.reg .a) s)

/-- `RES 6,B` (R194). -/
def execRes6B (s : State) : Result := finish (s.cfg.costCb 0xB0) (modifyOperand (res8 .o6) (.reg .b) s)

/-- `RES 6,C` (R194). -/
def execRes6C (s : State) : Result := finish (s.cfg.costCb 0xB1) (modifyOperand (res8 .o6) (.reg .c) s)

/-- `RES 6,D` (R194). -/
def execRes6D (s : State) : Result := finish (s.cfg.costCb 0xB2) (modifyOperand (res8 .o6) (.reg .d) s)

/-- `RES 6,E` (R194). -/
def execRes6E (s : State) : Result := finish (s.cfg.costCb 0xB3) (modifyOperand (res8 .o6) (.reg .e) s)

/-- `RES 6,H` (R194). -/
def execRes6H (s : State) : Result := finish (s.cfg.costCb 0xB4) (modifyOperand (res8 .o6) (.reg .h) s)

/-- `RES 6,L` (R194). -/
def execRes6L (s : State) : Result := finish (s.cfg.costCb 0xB5) (modifyOperand (res8 .o6) (.reg .l) s)

/-- `RES 6,(HL)` (R194). -/
def execRes6MemHl (s : State) : Result := finish (s.cfg.costCb 0xB6) (modifyOperand (res8 .o6) .memHl s)

/-- `RES 6,A` (R194). -/
def execRes6A (s : State) : Result := finish (s.cfg.costCb 0xB7) (modifyOperand (res8 .o6) (.reg .a) s)

/-- `RES 7,B` (R194). -/
def execRes7B (s : State) : Result := finish (s.cfg.costCb 0xB8) (modifyOperand (res8 .o7) (.reg .b) s)

/-- `RES 7,C` (R194). -/
def execRes7C (s : State) : Result := finish (s.cfg.costCb 0xB9) (modifyOperand (res8 .o7) (.reg .c) s)

/-- `RES 7,D` (R194). -/
def execRes7D (s : State) : Result := finish (s.cfg.costCb 0xBA) (modifyOperand (res8 .o7) (.reg .d) s)

/-- `RES 7,E` (R194). -/
def execRes7E (s : State) : Result := finish (s.cfg.costCb 0xBB) (modifyOperand (res8 .o7) (.reg .e) s)

/-- `RES 7,H` (R194). -/
def execRes7H (s : State) : Result := finish (s.cfg.costCb 0xBC) (modifyOperand (res8 .o7) (.reg .h) s)

/-- `RES 7,L` (R194). -/
def execRes7L (s : State) : Result := finish (s.cfg.costCb 0xBD) (modifyOperand (res8 .o7) (.reg .l) s)

/-- `RES 7,(HL)` (R194). -/
def execRes7MemHl (s : State) : Result := finish (s.cfg.costCb 0xBE) (modifyOperand (res8 .o7) .memHl s)

/-- `RES 7,A` (R194). -/
def execRes7A (s : State) : Result := finish (s.cfg.costCb 0xBF) (modifyOperand (res8 .o7) (.reg .a) s)

/-! ## SET -/

/-- `SET 0,B` (R195). -/
def execSet0B (s : State) : Result := finish (s.cfg.costCb 0xC0) (modifyOperand (set8 .o0) (.reg .b) s)

/-- `SET 0,C` (R195). -/
def execSet0C (s : State) : Result := finish (s.cfg.costCb 0xC1) (modifyOperand (set8 .o0) (.reg .c) s)

/-- `SET 0,D` (R195). -/
def execSet0D (s : State) : Result := finish (s.cfg.costCb 0xC2) (modifyOperand (set8 .o0) (.reg .d) s)

/-- `SET 0,E` (R195). -/
def execSet0E (s : State) : Result := finish (s.cfg.costCb 0xC3) (modifyOperand (set8 .o0) (.reg .e) s)

/-- `SET 0,H` (R195). -/
def execSet0H (s : State) : Result := finish (s.cfg.costCb 0xC4) (modifyOperand (set8 .o0) (.reg .h) s)

/-- `SET 0,L` (R195). -/
def execSet0L (s : State) : Result := finish (s.cfg.costCb 0xC5) (modifyOperand (set8 .o0) (.reg .l) s)

/-- `SET 0,(HL)` (R195). -/
def execSet0MemHl (s : State) : Result := finish (s.cfg.costCb 0xC6) (modifyOperand (set8 .o0) .memHl s)

/-- `SET 0,A` (R195). -/
def execSet0A (s : State) : Result := finish (s.cfg.costCb 0xC7) (modifyOperand (set8 .o0) (.reg .a) s)

/-- `SET 1,B` (R195). -/
def execSet1B (s : State) : Result := finish (s.cfg.costCb 0xC8) (modifyOperand (set8 .o1) (.reg .b) s)

/-- `SET 1,C` (R195). -/
def execSet1C (s : State) : Result := finish (s.cfg.costCb 0xC9) (modifyOperand (set8 .o1) (.reg .c) s)

/-- `SET 1,D` (R195). -/
def execSet1D (s : State) : Result := finish (s.cfg.costCb 0xCA) (modifyOperand (set8 .o1) (.reg .d) s)

/-- `SET 1,E` (R195). -/
def execSet1E (s : State) : Result := finish (s.cfg.costCb 0xCB) (modifyOperand (set8 .o1) (.reg .e) s)

/-- `SET 1,H` (R195). -/
def execSet1H (s : State) : Result := finish (s.cfg.costCb 0xCC) (modifyOperand (set8 .o1) (.reg .h) s)

/-- `SET 1,L` (R195). -/
def execSet1L (s : State) : Result := finish (s.cfg.costCb 0xCD) (modifyOperand (set8 .o1) (.reg .l) s)

/-- `SET 1,(HL)` (R195). -/
def execSet1MemHl (s : State) : Result := finish (s.cfg.costCb 0xCE) (modifyOperand (set8 .o1) .memHl s)

/-- `SET 1,A` (R195). -/
def execSet1A (s : State) : Result := finish (s.cfg.costCb 0xCF) (modifyOperand (set8 .o1) (.reg .a) s)

/-- `SET 2,B` (R195). -/
def execSet2B (s : State) : Result := finish (s.cfg.costCb 0xD0) (modifyOperand (set8 .o2) (.reg .b) s)

/-- `SET 2,C` (R195). -/
def execSet2C (s : State) : Result := finish (s.cfg.costCb 0xD1) (modifyOperand (set8 .o2) (.reg .c) s)

/-- `SET 2,D` (R195). -/
def execSet2D (s : State) : Result := finish (s.cfg.costCb 0xD2) (modifyOperand (set8 .o2) (.reg .d) s)

/-- `SET 2,E` (R195). -/
def execSet2E (s : State) : Result := finish (s.cfg.costCb 0xD3) (modifyOperand (set8 .o2) (.reg .e) s)

/-- `SET 2,H` (R195). -/
def execSet2H (s : State) : Result := finish (s.cfg.costCb 0xD4) (modifyOperand (set8 .o2) (.reg .h) s)

/-- `SET 2,L` (R195). -/
def execSet2L (s : State) : Result := finish (s.cfg.costCb 0xD5) (modifyOperand (set8 .o2) (.reg .l) s)

/-- `SET 2,(HL)` (R195). -/
def execSet2MemHl (s : State) : Result := finish (s.cfg.costCb 0xD6) (modifyOperand (set8 .o2) .memHl s)

/-- `SET 2,A` (R195). -/
def execSet2A (s : State) : Result := finish (s.cfg.costCb 0xD7) (modifyOperand (set8 .o2) (.reg .a) s)

/-- `SET 3,B` (R195). -/
def execSet3B (s : State) : Result := finish (s.cfg.costCb 0xD8) (modifyOperand (set8 .o3) (.reg .b) s)

/-- `SET 3,C` (R195). -/
def execSet3C (s : State) : Result := finish (s.cfg.costCb 0xD9) (modifyOperand (set8 .o3) (.reg .c) s)

/-- `SET 3,D` (R195). -/
def execSet3D (s : State) : Result := finish (s.cfg.costCb 0xDA) (modifyOperand (set8 .o3) (.reg .d) s)

/-- `SET 3,E` (R195). -/
def execSet3E (s : State) : Result := finish (s.cfg.costCb 0xDB) (modifyOperand (set8 .o3) (.reg .e) s)

/-- `SET 3,H` (R195). -/
def execSet3H (s : State) : Result := finish (s.cfg.costCb 0xDC) (modifyOperand (set8 .o3) (.reg .h) s)

/-- `SET 3,L` (R195). -/
def execSet3L (s : State) : Result := finish (s.cfg.costCb 0xDD) (modifyOperand (set8 .o3) (.reg .l) s)

/-- `SET 3,(HL)` (R195). -/
def execSet3MemHl (s : State) : Result := finish (s.cfg.costCb 0xDE) (modifyOperand (set8 .o3) .memHl s)

/-- `SET 3,A` (R195). -/
def execSet3A (s : State) : Result := finish (s.cfg.costCb 0xDF) (modifyOperand (set8 .o3) (.reg .a) s)

/-- `SET 4,B` (R195). -/
def execSet4B (s : State) : Result := finish (s.cfg.costCb 0xE0) (modifyOperand (set8 .o4) (.reg .b) s)

/-- `SET 4,C` (R195). -/
def execSet4C (s : State) : Result := finish (s.cfg.costCb 0xE1) (modifyOperand (set8 .o4) (.reg .c) s)

/-- `SET 4,D` (R195). -/
def execSet4D (s : State) : Result := finish (s.cfg.costCb 0xE2) (modifyOperand (set8 .o4) (.reg .d) s)

/-- `SET 4,E` (R195). -/
def execSet4E (s : State) : Result := finish (s.cfg.costCb 0xE3) (modifyOperand (set8 .o4) (.reg .e) s)

/-- `SET 4,H` (R195). -/
def execSet4H (s : State) : Result := finish (s.cfg.costCb 0xE4) (modifyOperand (set8 .o4) (.reg .h) s)

/-- `SET 4,L` (R195). -/
def execSet4L (s : State) : Result := finish (s.cfg.costCb 0xE5) (modifyOperand (set8 .o4) (.reg .l) s)

/-- `SET 4,(HL)` (R195). -/
def execSet4MemHl (s : State) : Result := finish (s.cfg.costCb 0xE6) (modifyOperand (set8 .o4) .memHl s)

/-- `SET 4,A` (R195). -/
def execSet4A (s : State) : Result := finish (s.cfg.costCb 0xE7) (modifyOperand (set8 .o4) (.reg .a) s)

/-- `SET 5,B` (R195). -/
def execSet5B (s : State) : Result := finish (s.cfg.costCb 0xE8) (modifyOperand (set8 .o5) (.reg .b) s)

/-- `SET 5,C` (R195). -/
def execSet5C (s : State) : Result := finish (s.cfg.costCb 0xE9) (modifyOperand (set8 .o5) (.reg .c) s)

/-- `SET 5,D` (R195). -/
def execSet5D (s : State) : Result := finish (s.cfg.costCb 0xEA) (modifyOperand (set8 .o5) (.reg .d) s)

/-- `SET 5,E` (R195). -/
def execSet5E (s : State) : Result := finish (s.cfg.costCb 0xEB) (modifyOperand (set8 .o5) (.reg .e) s)

/-- `SET 5,H` (R195). -/
def execSet5H (s : State) : Result := finish (s.cfg.costCb 0xEC) (modifyOperand (set8 .o5) (.reg .h) s)

/-- `SET 5,L` (R195). -/
def execSet5L (s : State) : Result := finish (s.cfg.costCb 0xED) (modifyOperand (set8 .o5) (.reg .l) s)

/-- `SET 5,(HL)` (R195). -/
def execSet5MemHl (s : State) : Result := finish (s.cfg.costCb 0xEE) (modifyOperand (set8 .o5) .memHl s)

/-- `SET 5,A` (R195). -/
def execSet5A (s : State) : Result := finish (s.cfg.costCb 0xEF) (modifyOperand (set8 .o5) (.reg .a) s)

/-- `SET 6,B` (R195). -/
def execSet6B (s : State) : Result := finish (s.cfg.costCb 0xF0) (modifyOperand (set8 .o6) (.reg .b) s)

/-- `SET 6,C` (R195). -/
def execSet6C (s : State) : Result := finish (s.cfg.costCb 0xF1) (modifyOperand (set8 .o6) (.reg .c) s)

/-- `SET 6,D` (R195). -/
def execSet6D (s : State) : Result := finish (s.cfg.costCb 0xF2) (modifyOperand (set8 .o6) (.reg .d) s)

/-- `SET 6,E` (R195). -/
def execSet6E (s : State) : Result := finish (s.cfg.costCb 0xF3) (modifyOperand (set8 .o6) (.reg .e) s)

/-- `SET 6,H` (R195). -/
def execSet6H (s : State) : Result := finish (s.cfg.costCb 0xF4) (modifyOperand (set8 .o6) (.reg .h) s)

/-- `SET 6,L` (R195). -/
def execSet6L (s : State) : Result := finish (s.cfg.costCb 0xF5) (modifyOperand (set8 .o6) (.reg .l) s)

/-- `SET 6,(HL)` (R195). -/
def execSet6MemHl (s : State) : Result := finish (s.cfg.costCb 0xF6) (modifyOperand (set8 .o6) .memHl s)

/-- `SET 6,A` (R195). -/
def execSet6A (s : State) : Result := finish (s.cfg.costCb 0xF7) (modifyOperand (set8 .o6) (.reg .a) s)

/-- `SET 7,B` (R195). -/
def execSet7B (s : State) : Result := finish (s.cfg.costCb 0xF8) (modifyOperand (set8 .o7) (.reg .b) s)

/-- `SET 7,C` (R195). -/
def execSet7C (s : State) : Result := finish (s.cfg.costCb 0xF9) (modifyOperand (set8 .o7) (.reg .c) s)

/-- `SET 7,D` (R195). -/
def execSet7D (s : State) : Result := finish (s.cfg.costCb 0xFA) (modifyOperand (set8 .o7) (.reg .d) s)

/-- `SET 7,E` (R195). -/
def execSet7E (s : State) : Result := finish (s.cfg.costCb 0xFB) (modifyOperand (set8 .o7) (.reg .e) s)

/-- `SET 7,H` (R195). -/
def execSet7H (s : State) : Result := finish (s.cfg.costCb 0xFC) (modifyOperand (set8 .o7) (.reg .h) s)

/-- `SET 7,L` (R195). -/
def execSet7L (s : State) : Result := finish (s.cfg.costCb 0xFD) (modifyOperand (set8 .o7) (.reg .l) s)

/-- `SET 7,(HL)` (R195). -/
def execSet7MemHl (s : State) : Result := finish (s.cfg.costCb 0xFE) (modifyOperand (set8 .o7) .memHl s)

/-- `SET 7,A` (R195). -/
def execSet7A (s : State) : Result := finish (s.cfg.costCb 0xFF) (modifyOperand (set8 .o7) (.reg .a) s)

end Sys2Proof.Machine
end

