-- ==== Sys2Proof/Machine/Control.lean ====
section
/-! DEFINITION. Machine/Control.lean: control transfer (rules R200 to R211). In every meaning `pc` is already the address after the instruction. -/

namespace Sys2Proof.Machine

/-- `pc <- a16` (rule R202). -/
def jump (a : Word) (s : State) : Except Fault State := .ok (s.setPc a)

/-- `pc <- pc + signed8(e8)` (rule R204). -/
def jumpRel (e : Byte) (s : State) : Except Fault State := .ok (s.setPc (s.cpu.pc + signExt e))

/-! ## Jumps -/

/-- `JR e8` (R204). -/
def execJrE8 (e8 : Byte) (s : State) : Result := finish (s.cfg.cost 0x18) (jumpRel e8 s)

/-- `JR NZ,e8` (R205). -/
def execJrNzE8 (e8 : Byte) (s : State) : Result := finishCond .nz 0x20 (jumpRel e8) s

/-- `JR Z,e8` (R205). -/
def execJrZE8 (e8 : Byte) (s : State) : Result := finishCond .z 0x28 (jumpRel e8) s

/-- `JR NC,e8` (R205). -/
def execJrNcE8 (e8 : Byte) (s : State) : Result := finishCond .nc 0x30 (jumpRel e8) s

/-- `JR C,e8` (R205). -/
def execJrCE8 (e8 : Byte) (s : State) : Result := finishCond .c 0x38 (jumpRel e8) s

/-- `JP NZ,a16` (R202). -/
def execJpNzA16 (a16 : Word) (s : State) : Result := finishCond .nz 0xC2 (jump a16) s

/-- `JP a16` (R201). -/
def execJpA16 (a16 : Word) (s : State) : Result := finish (s.cfg.cost 0xC3) (.ok (s.setPc a16))

/-- `JP Z,a16` (R202). -/
def execJpZA16 (a16 : Word) (s : State) : Result := finishCond .z 0xCA (jump a16) s

/-- `JP NC,a16` (R202). -/
def execJpNcA16 (a16 : Word) (s : State) : Result := finishCond .nc 0xD2 (jump a16) s

/-- `JP C,a16` (R202). -/
def execJpCA16 (a16 : Word) (s : State) : Result := finishCond .c 0xDA (jump a16) s

/-- `JP HL` (R203). -/
def execJpHl (s : State) : Result := finish (s.cfg.cost 0xE9) (.ok (s.setPc s.hl))

/-! ## Calls and restarts -/

/-- `CALL NZ,a16` (R207). -/
def execCallNzA16 (a16 : Word) (s : State) : Result := finishCond .nz 0xC4 (callTo a16) s

/-- `RST 00H` (R211). -/
def execRst00 (s : State) : Result := finish (s.cfg.cost 0xC7) (callTo (rstTarget .o0) s)

/-- `CALL Z,a16` (R207). -/
def execCallZA16 (a16 : Word) (s : State) : Result := finishCond .z 0xCC (callTo a16) s

/-- `CALL a16` (R206). -/
def execCallA16 (a16 : Word) (s : State) : Result := finish (s.cfg.cost 0xCD) (callTo a16 s)

/-- `RST 08H` (R211). -/
def execRst08 (s : State) : Result := finish (s.cfg.cost 0xCF) (callTo (rstTarget .o1) s)

/-- `CALL NC,a16` (R207). -/
def execCallNcA16 (a16 : Word) (s : State) : Result := finishCond .nc 0xD4 (callTo a16) s

/-- `RST 10H` (R211). -/
def execRst10 (s : State) : Result := finish (s.cfg.cost 0xD7) (callTo (rstTarget .o2) s)

/-- `CALL C,a16` (R207). -/
def execCallCA16 (a16 : Word) (s : State) : Result := finishCond .c 0xDC (callTo a16) s

/-- `RST 18H` (R211). -/
def execRst18 (s : State) : Result := finish (s.cfg.cost 0xDF) (callTo (rstTarget .o3) s)

/-- `RST 20H` (R211). -/
def execRst20 (s : State) : Result := finish (s.cfg.cost 0xE7) (callTo (rstTarget .o4) s)

/-- `RST 28H` (R211). -/
def execRst28 (s : State) : Result := finish (s.cfg.cost 0xEF) (callTo (rstTarget .o5) s)

/-- `RST 30H` (R211). -/
def execRst30 (s : State) : Result := finish (s.cfg.cost 0xF7) (callTo (rstTarget .o6) s)

/-- `RST 38H` (R211). -/
def execRst38 (s : State) : Result := finish (s.cfg.cost 0xFF) (callTo (rstTarget .o7) s)

/-! ## Returns -/

/-- `RET NZ` (R209). -/
def execRetNz (s : State) : Result := finishCond .nz 0xC0 returnTo s

/-- `RET Z` (R209). -/
def execRetZ (s : State) : Result := finishCond .z 0xC8 returnTo s

/-- `RET` (R208). -/
def execRet (s : State) : Result := finish (s.cfg.cost 0xC9) (returnTo s)

/-- `RET NC` (R209). -/
def execRetNc (s : State) : Result := finishCond .nc 0xD0 returnTo s

/-- `RET C` (R209). -/
def execRetC (s : State) : Result := finishCond .c 0xD8 returnTo s

/-- `RETI` (R210). -/
def execReti (s : State) : Result := finish (s.cfg.cost 0xD9) (returnFromInterrupt s)

end Sys2Proof.Machine
end

