-- ==== Sys2Proof/Machine/Load16.lean ====
section
/-! DEFINITION. Machine/Load16.lean: the 16-bit loads and the stack instructions (rules R140 to R146). -/

namespace Sys2Proof.Machine

/-- `xx[HL] <- sp + e8` with its flags (rule R143). -/
def hlFromSp (e : Byte) (s : State) : State :=
  (s.setHl (addSpDisp s.cpu.sp e).1).setFlags (addSpDisp s.cpu.sp e).2

/-- `xx[qq] <- pop16()` (rules R145, R146). -/
def popTo (q : QQ) (s : State) : Except Fault State :=
  match pop16 s with
  | .ok (w, s1) => .ok (s1.setQq q w)
  | .error f => .error f

/-! ## Loads -/

/-- `LD BC,d16` (R140). -/
def execLdBcD16 (d16 : Word) (s : State) : Result := finish (s.cfg.cost 0x01) (.ok (s.setRr .bc d16))

/-- `LD (a16),SP` (R141). -/
def execLdMemA16Sp (a16 : Word) (s : State) : Result := finish (s.cfg.cost 0x08) (busWrite16 s a16 s.cpu.sp)

/-- `LD DE,d16` (R140). -/
def execLdDeD16 (d16 : Word) (s : State) : Result := finish (s.cfg.cost 0x11) (.ok (s.setRr .de d16))

/-- `LD HL,d16` (R140). -/
def execLdHlD16 (d16 : Word) (s : State) : Result := finish (s.cfg.cost 0x21) (.ok (s.setRr .hl d16))

/-- `LD SP,d16` (R140). -/
def execLdSpD16 (d16 : Word) (s : State) : Result := finish (s.cfg.cost 0x31) (.ok (s.setRr .sp d16))

/-- `LD HL,SP+e8` (R143). -/
def execLdHlSpE8 (e8 : Byte) (s : State) : Result := finish (s.cfg.cost 0xF8) (.ok (hlFromSp e8 s))

/-- `LD SP,HL` (R142). -/
def execLdSpHl (s : State) : Result := finish (s.cfg.cost 0xF9) (.ok (s.setSp s.hl))

/-! ## The stack -/

/-- `POP BC` (R145). -/
def execPopBc (s : State) : Result := finish (s.cfg.cost 0xC1) (popTo .bc s)

/-- `PUSH BC` (R144). -/
def execPushBc (s : State) : Result := finish (s.cfg.cost 0xC5) (push16 (s.qq .bc) s)

/-- `POP DE` (R145). -/
def execPopDe (s : State) : Result := finish (s.cfg.cost 0xD1) (popTo .de s)

/-- `PUSH DE` (R144). -/
def execPushDe (s : State) : Result := finish (s.cfg.cost 0xD5) (push16 (s.qq .de) s)

/-- `POP HL` (R145). -/
def execPopHl (s : State) : Result := finish (s.cfg.cost 0xE1) (popTo .hl s)

/-- `PUSH HL` (R144). -/
def execPushHl (s : State) : Result := finish (s.cfg.cost 0xE5) (push16 (s.qq .hl) s)

/-- `POP AF` (R146). -/
def execPopAf (s : State) : Result := finish (s.cfg.cost 0xF1) (popTo .af s)

/-- `PUSH AF` (R144). -/
def execPushAf (s : State) : Result := finish (s.cfg.cost 0xF5) (push16 (s.qq .af) s)

end Sys2Proof.Machine
end

