-- ==== Sys2Proof/Machine/Load8.lean ====
section
/-! DEFINITION. Machine/Load8.lean: the 8-bit loads (rules R110 to R128). No load changes a flag. -/

namespace Sys2Proof.Machine

/-- `r8[d] <- r8[src]` (rules R110, R112, R113): the source is read before the destination is written. -/
def move (d src : R8) (s : State) : Except Fault State :=
  match readR8 s src with
  | .ok v => writeR8 s d v
  | .error f => .error f

/-- `x[A] <- MemRead(addr, 1)` (rules R115, R116, R119, R121, R123). -/
def loadA (addr : Word) (s : State) : Except Fault State :=
  match busRead s addr with
  | .ok v => .ok (s.setReg .a v)
  | .error f => .error f

/-- `MemWrite(addr, 1, x[A])` (rules R117, R118, R120, R122, R124). -/
def storeA (addr : Word) (s : State) : Except Fault State := busWrite s addr s.cpu.a

/-- `xx[HL] <- xx[HL] + d` (rules R125 to R128). -/
def stepHl (d : Word) (s : State) : State := s.setHl (s.hl + d)

/-! ## Register and immediate -/

/-- `LD B,d8` (R111). -/
def execLdBD8 (d8 : Byte) (s : State) : Result := finish (s.cfg.cost 0x06) (writeR8 s (.reg .b) d8)

/-- `LD C,d8` (R111). -/
def execLdCD8 (d8 : Byte) (s : State) : Result := finish (s.cfg.cost 0x0E) (writeR8 s (.reg .c) d8)

/-- `LD D,d8` (R111). -/
def execLdDD8 (d8 : Byte) (s : State) : Result := finish (s.cfg.cost 0x16) (writeR8 s (.reg .d) d8)

/-- `LD E,d8` (R111). -/
def execLdED8 (d8 : Byte) (s : State) : Result := finish (s.cfg.cost 0x1E) (writeR8 s (.reg .e) d8)

/-- `LD H,d8` (R111). -/
def execLdHD8 (d8 : Byte) (s : State) : Result := finish (s.cfg.cost 0x26) (writeR8 s (.reg .h) d8)

/-- `LD L,d8` (R111). -/
def execLdLD8 (d8 : Byte) (s : State) : Result := finish (s.cfg.cost 0x2E) (writeR8 s (.reg .l) d8)

/-- `LD A,d8` (R111). -/
def execLdAD8 (d8 : Byte) (s : State) : Result := finish (s.cfg.cost 0x3E) (writeR8 s (.reg .a) d8)

/-- `LD B,B` (R110). -/
def execLdBB (s : State) : Result := finish (s.cfg.cost 0x40) (move (.reg .b) (.reg .b) s)

/-- `LD B,C` (R110). -/
def execLdBC (s : State) : Result := finish (s.cfg.cost 0x41) (move (.reg .b) (.reg .c) s)

/-- `LD B,D` (R110). -/
def execLdBD (s : State) : Result := finish (s.cfg.cost 0x42) (move (.reg .b) (.reg .d) s)

/-- `LD B,E` (R110). -/
def execLdBE (s : State) : Result := finish (s.cfg.cost 0x43) (move (.reg .b) (.reg .e) s)

/-- `LD B,H` (R110). -/
def execLdBH (s : State) : Result := finish (s.cfg.cost 0x44) (move (.reg .b) (.reg .h) s)

/-- `LD B,L` (R110). -/
def execLdBL (s : State) : Result := finish (s.cfg.cost 0x45) (move (.reg .b) (.reg .l) s)

/-- `LD B,A` (R110). -/
def execLdBA (s : State) : Result := finish (s.cfg.cost 0x47) (move (.reg .b) (.reg .a) s)

/-- `LD C,B` (R110). -/
def execLdCB (s : State) : Result := finish (s.cfg.cost 0x48) (move (.reg .c) (.reg .b) s)

/-- `LD C,C` (R110). -/
def execLdCC (s : State) : Result := finish (s.cfg.cost 0x49) (move (.reg .c) (.reg .c) s)

/-- `LD C,D` (R110). -/
def execLdCD (s : State) : Result := finish (s.cfg.cost 0x4A) (move (.reg .c) (.reg .d) s)

/-- `LD C,E` (R110). -/
def execLdCE (s : State) : Result := finish (s.cfg.cost 0x4B) (move (.reg .c) (.reg .e) s)

/-- `LD C,H` (R110). -/
def execLdCH (s : State) : Result := finish (s.cfg.cost 0x4C) (move (.reg .c) (.reg .h) s)

/-- `LD C,L` (R110). -/
def execLdCL (s : State) : Result := finish (s.cfg.cost 0x4D) (move (.reg .c) (.reg .l) s)

/-- `LD C,A` (R110). -/
def execLdCA (s : State) : Result := finish (s.cfg.cost 0x4F) (move (.reg .c) (.reg .a) s)

/-- `LD D,B` (R110). -/
def execLdDB (s : State) : Result := finish (s.cfg.cost 0x50) (move (.reg .d) (.reg .b) s)

/-- `LD D,C` (R110). -/
def execLdDC (s : State) : Result := finish (s.cfg.cost 0x51) (move (.reg .d) (.reg .c) s)

/-- `LD D,D` (R110). -/
def execLdDD (s : State) : Result := finish (s.cfg.cost 0x52) (move (.reg .d) (.reg .d) s)

/-- `LD D,E` (R110). -/
def execLdDE (s : State) : Result := finish (s.cfg.cost 0x53) (move (.reg .d) (.reg .e) s)

/-- `LD D,H` (R110). -/
def execLdDH (s : State) : Result := finish (s.cfg.cost 0x54) (move (.reg .d) (.reg .h) s)

/-- `LD D,L` (R110). -/
def execLdDL (s : State) : Result := finish (s.cfg.cost 0x55) (move (.reg .d) (.reg .l) s)

/-- `LD D,A` (R110). -/
def execLdDA (s : State) : Result := finish (s.cfg.cost 0x57) (move (.reg .d) (.reg .a) s)

/-- `LD E,B` (R110). -/
def execLdEB (s : State) : Result := finish (s.cfg.cost 0x58) (move (.reg .e) (.reg .b) s)

/-- `LD E,C` (R110). -/
def execLdEC (s : State) : Result := finish (s.cfg.cost 0x59) (move (.reg .e) (.reg .c) s)

/-- `LD E,D` (R110). -/
def execLdED (s : State) : Result := finish (s.cfg.cost 0x5A) (move (.reg .e) (.reg .d) s)

/-- `LD E,E` (R110). -/
def execLdEE (s : State) : Result := finish (s.cfg.cost 0x5B) (move (.reg .e) (.reg .e) s)

/-- `LD E,H` (R110). -/
def execLdEH (s : State) : Result := finish (s.cfg.cost 0x5C) (move (.reg .e) (.reg .h) s)

/-- `LD E,L` (R110). -/
def execLdEL (s : State) : Result := finish (s.cfg.cost 0x5D) (move (.reg .e) (.reg .l) s)

/-- `LD E,A` (R110). -/
def execLdEA (s : State) : Result := finish (s.cfg.cost 0x5F) (move (.reg .e) (.reg .a) s)

/-- `LD H,B` (R110). -/
def execLdHB (s : State) : Result := finish (s.cfg.cost 0x60) (move (.reg .h) (.reg .b) s)

/-- `LD H,C` (R110). -/
def execLdHC (s : State) : Result := finish (s.cfg.cost 0x61) (move (.reg .h) (.reg .c) s)

/-- `LD H,D` (R110). -/
def execLdHD (s : State) : Result := finish (s.cfg.cost 0x62) (move (.reg .h) (.reg .d) s)

/-- `LD H,E` (R110). -/
def execLdHE (s : State) : Result := finish (s.cfg.cost 0x63) (move (.reg .h) (.reg .e) s)

/-- `LD H,H` (R110). -/
def execLdHH (s : State) : Result := finish (s.cfg.cost 0x64) (move (.reg .h) (.reg .h) s)

/-- `LD H,L` (R110). -/
def execLdHL (s : State) : Result := finish (s.cfg.cost 0x65) (move (.reg .h) (.reg .l) s)

/-- `LD H,A` (R110). -/
def execLdHA (s : State) : Result := finish (s.cfg.cost 0x67) (move (.reg .h) (.reg .a) s)

/-- `LD L,B` (R110). -/
def execLdLB (s : State) : Result := finish (s.cfg.cost 0x68) (move (.reg .l) (.reg .b) s)

/-- `LD L,C` (R110). -/
def execLdLC (s : State) : Result := finish (s.cfg.cost 0x69) (move (.reg .l) (.reg .c) s)

/-- `LD L,D` (R110). -/
def execLdLD (s : State) : Result := finish (s.cfg.cost 0x6A) (move (.reg .l) (.reg .d) s)

/-- `LD L,E` (R110). -/
def execLdLE (s : State) : Result := finish (s.cfg.cost 0x6B) (move (.reg .l) (.reg .e) s)

/-- `LD L,H` (R110). -/
def execLdLH (s : State) : Result := finish (s.cfg.cost 0x6C) (move (.reg .l) (.reg .h) s)

/-- `LD L,L` (R110). -/
def execLdLL (s : State) : Result := finish (s.cfg.cost 0x6D) (move (.reg .l) (.reg .l) s)

/-- `LD L,A` (R110). -/
def execLdLA (s : State) : Result := finish (s.cfg.cost 0x6F) (move (.reg .l) (.reg .a) s)

/-- `LD A,B` (R110). -/
def execLdAB (s : State) : Result := finish (s.cfg.cost 0x78) (move (.reg .a) (.reg .b) s)

/-- `LD A,C` (R110). -/
def execLdAC (s : State) : Result := finish (s.cfg.cost 0x79) (move (.reg .a) (.reg .c) s)

/-- `LD A,D` (R110). -/
def execLdAD (s : State) : Result := finish (s.cfg.cost 0x7A) (move (.reg .a) (.reg .d) s)

/-- `LD A,E` (R110). -/
def execLdAE (s : State) : Result := finish (s.cfg.cost 0x7B) (move (.reg .a) (.reg .e) s)

/-- `LD A,H` (R110). -/
def execLdAH (s : State) : Result := finish (s.cfg.cost 0x7C) (move (.reg .a) (.reg .h) s)

/-- `LD A,L` (R110). -/
def execLdAL (s : State) : Result := finish (s.cfg.cost 0x7D) (move (.reg .a) (.reg .l) s)

/-- `LD A,A` (R110). -/
def execLdAA (s : State) : Result := finish (s.cfg.cost 0x7F) (move (.reg .a) (.reg .a) s)

/-! ## Through HL -/

/-- `LD (HL),d8` (R114). -/
def execLdMemHlD8 (d8 : Byte) (s : State) : Result := finish (s.cfg.cost 0x36) (writeR8 s .memHl d8)

/-- `LD B,(HL)` (R112). -/
def execLdBMemHl (s : State) : Result := finish (s.cfg.cost 0x46) (move (.reg .b) .memHl s)

/-- `LD C,(HL)` (R112). -/
def execLdCMemHl (s : State) : Result := finish (s.cfg.cost 0x4E) (move (.reg .c) .memHl s)

/-- `LD D,(HL)` (R112). -/
def execLdDMemHl (s : State) : Result := finish (s.cfg.cost 0x56) (move (.reg .d) .memHl s)

/-- `LD E,(HL)` (R112). -/
def execLdEMemHl (s : State) : Result := finish (s.cfg.cost 0x5E) (move (.reg .e) .memHl s)

/-- `LD H,(HL)` (R112). -/
def execLdHMemHl (s : State) : Result := finish (s.cfg.cost 0x66) (move (.reg .h) .memHl s)

/-- `LD L,(HL)` (R112). -/
def execLdLMemHl (s : State) : Result := finish (s.cfg.cost 0x6E) (move (.reg .l) .memHl s)

/-- `LD (HL),B` (R113). -/
def execLdMemHlB (s : State) : Result := finish (s.cfg.cost 0x70) (move .memHl (.reg .b) s)

/-- `LD (HL),C` (R113). -/
def execLdMemHlC (s : State) : Result := finish (s.cfg.cost 0x71) (move .memHl (.reg .c) s)

/-- `LD (HL),D` (R113). -/
def execLdMemHlD (s : State) : Result := finish (s.cfg.cost 0x72) (move .memHl (.reg .d) s)

/-- `LD (HL),E` (R113). -/
def execLdMemHlE (s : State) : Result := finish (s.cfg.cost 0x73) (move .memHl (.reg .e) s)

/-- `LD (HL),H` (R113). -/
def execLdMemHlH (s : State) : Result := finish (s.cfg.cost 0x74) (move .memHl (.reg .h) s)

/-- `LD (HL),L` (R113). -/
def execLdMemHlL (s : State) : Result := finish (s.cfg.cost 0x75) (move .memHl (.reg .l) s)

/-- `LD (HL),A` (R113). -/
def execLdMemHlA (s : State) : Result := finish (s.cfg.cost 0x77) (move .memHl (.reg .a) s)

/-- `LD A,(HL)` (R112). -/
def execLdAMemHl (s : State) : Result := finish (s.cfg.cost 0x7E) (move (.reg .a) .memHl s)

/-! ## Through BC and DE, absolute, high page -/

/-- `LD (BC),A` (R117). -/
def execLdMemBcA (s : State) : Result := finish (s.cfg.cost 0x02) (storeA s.bc s)

/-- `LD A,(BC)` (R115). -/
def execLdAMemBc (s : State) : Result := finish (s.cfg.cost 0x0A) (loadA s.bc s)

/-- `LD (DE),A` (R118). -/
def execLdMemDeA (s : State) : Result := finish (s.cfg.cost 0x12) (storeA s.de s)

/-- `LD A,(DE)` (R116). -/
def execLdAMemDe (s : State) : Result := finish (s.cfg.cost 0x1A) (loadA s.de s)

/-- `LDH (a8),A` (R122). -/
def execLdhMemA8A (a8 : Byte) (s : State) : Result := finish (s.cfg.cost 0xE0) (storeA (highPage a8) s)

/-- `LD (C),A` (R124). -/
def execLdMemCA (s : State) : Result := finish (s.cfg.cost 0xE2) (storeA (highPage s.cpu.c) s)

/-- `LD (a16),A` (R120). -/
def execLdMemA16A (a16 : Word) (s : State) : Result := finish (s.cfg.cost 0xEA) (storeA a16 s)

/-- `LDH A,(a8)` (R121). -/
def execLdhAMemA8 (a8 : Byte) (s : State) : Result := finish (s.cfg.cost 0xF0) (loadA (highPage a8) s)

/-- `LD A,(C)` (R123). -/
def execLdAMemC (s : State) : Result := finish (s.cfg.cost 0xF2) (loadA (highPage s.cpu.c) s)

/-- `LD A,(a16)` (R119). -/
def execLdAMemA16 (a16 : Word) (s : State) : Result := finish (s.cfg.cost 0xFA) (loadA a16 s)

/-! ## Through HL, then HL plus or minus 1 -/

/-- `LD (HL+),A` (R125). -/
def execLdMemHlIncA (s : State) : Result := finish (s.cfg.cost 0x22) (thenSet (storeA s.hl s) (stepHl 1))

/-- `LD A,(HL+)` (R126). -/
def execLdAMemHlInc (s : State) : Result := finish (s.cfg.cost 0x2A) (thenSet (loadA s.hl s) (stepHl 1))

/-- `LD (HL-),A` (R127). -/
def execLdMemHlDecA (s : State) : Result := finish (s.cfg.cost 0x32) (thenSet (storeA s.hl s) (stepHl (-1)))

/-- `LD A,(HL-)` (R128). -/
def execLdAMemHlDec (s : State) : Result := finish (s.cfg.cost 0x3A) (thenSet (loadA s.hl s) (stepHl (-1)))

end Sys2Proof.Machine
end

