-- ==== Sys2Proof/Machine/RotShift.lean ====
section
/-! DEFINITION. Machine/RotShift.lean: rotates and shifts (rules R180 to R192). -/

namespace Sys2Proof.Machine

/-! ## The accumulator forms -/

/-- `RLCA` (R180). -/
def execRlca (s : State) : Result := finish (s.cfg.cost 0x07) (modifyOperand (accForm rlc8) (.reg .a) s)

/-- `RRCA` (R182). -/
def execRrca (s : State) : Result := finish (s.cfg.cost 0x0F) (modifyOperand (accForm rrc8) (.reg .a) s)

/-- `RLA` (R181). -/
def execRla (s : State) : Result := finish (s.cfg.cost 0x17) (modifyOperand (accForm rl8) (.reg .a) s)

/-- `RRA` (R183). -/
def execRra (s : State) : Result := finish (s.cfg.cost 0x1F) (modifyOperand (accForm rr8) (.reg .a) s)

/-! ## The prefixed forms -/

/-- `RLC B` (R185). -/
def execRlcB (s : State) : Result := finish (s.cfg.costCb 0x00) (modifyOperand rlc8 (.reg .b) s)

/-- `RLC C` (R185). -/
def execRlcC (s : State) : Result := finish (s.cfg.costCb 0x01) (modifyOperand rlc8 (.reg .c) s)

/-- `RLC D` (R185). -/
def execRlcD (s : State) : Result := finish (s.cfg.costCb 0x02) (modifyOperand rlc8 (.reg .d) s)

/-- `RLC E` (R185). -/
def execRlcE (s : State) : Result := finish (s.cfg.costCb 0x03) (modifyOperand rlc8 (.reg .e) s)

/-- `RLC H` (R185). -/
def execRlcH (s : State) : Result := finish (s.cfg.costCb 0x04) (modifyOperand rlc8 (.reg .h) s)

/-- `RLC L` (R185). -/
def execRlcL (s : State) : Result := finish (s.cfg.costCb 0x05) (modifyOperand rlc8 (.reg .l) s)

/-- `RLC (HL)` (R185). -/
def execRlcMemHl (s : State) : Result := finish (s.cfg.costCb 0x06) (modifyOperand rlc8 .memHl s)

/-- `RLC A` (R185). -/
def execRlcA (s : State) : Result := finish (s.cfg.costCb 0x07) (modifyOperand rlc8 (.reg .a) s)

/-- `RRC B` (R186). -/
def execRrcB (s : State) : Result := finish (s.cfg.costCb 0x08) (modifyOperand rrc8 (.reg .b) s)

/-- `RRC C` (R186). -/
def execRrcC (s : State) : Result := finish (s.cfg.costCb 0x09) (modifyOperand rrc8 (.reg .c) s)

/-- `RRC D` (R186). -/
def execRrcD (s : State) : Result := finish (s.cfg.costCb 0x0A) (modifyOperand rrc8 (.reg .d) s)

/-- `RRC E` (R186). -/
def execRrcE (s : State) : Result := finish (s.cfg.costCb 0x0B) (modifyOperand rrc8 (.reg .e) s)

/-- `RRC H` (R186). -/
def execRrcH (s : State) : Result := finish (s.cfg.costCb 0x0C) (modifyOperand rrc8 (.reg .h) s)

/-- `RRC L` (R186). -/
def execRrcL (s : State) : Result := finish (s.cfg.costCb 0x0D) (modifyOperand rrc8 (.reg .l) s)

/-- `RRC (HL)` (R186). -/
def execRrcMemHl (s : State) : Result := finish (s.cfg.costCb 0x0E) (modifyOperand rrc8 .memHl s)

/-- `RRC A` (R186). -/
def execRrcA (s : State) : Result := finish (s.cfg.costCb 0x0F) (modifyOperand rrc8 (.reg .a) s)

/-- `RL B` (R187). -/
def execRlB (s : State) : Result := finish (s.cfg.costCb 0x10) (modifyOperand rl8 (.reg .b) s)

/-- `RL C` (R187). -/
def execRlC (s : State) : Result := finish (s.cfg.costCb 0x11) (modifyOperand rl8 (.reg .c) s)

/-- `RL D` (R187). -/
def execRlD (s : State) : Result := finish (s.cfg.costCb 0x12) (modifyOperand rl8 (.reg .d) s)

/-- `RL E` (R187). -/
def execRlE (s : State) : Result := finish (s.cfg.costCb 0x13) (modifyOperand rl8 (.reg .e) s)

/-- `RL H` (R187). -/
def execRlH (s : State) : Result := finish (s.cfg.costCb 0x14) (modifyOperand rl8 (.reg .h) s)

/-- `RL L` (R187). -/
def execRlL (s : State) : Result := finish (s.cfg.costCb 0x15) (modifyOperand rl8 (.reg .l) s)

/-- `RL (HL)` (R187). -/
def execRlMemHl (s : State) : Result := finish (s.cfg.costCb 0x16) (modifyOperand rl8 .memHl s)

/-- `RL A` (R187). -/
def execRlA (s : State) : Result := finish (s.cfg.costCb 0x17) (modifyOperand rl8 (.reg .a) s)

/-- `RR B` (R188). -/
def execRrB (s : State) : Result := finish (s.cfg.costCb 0x18) (modifyOperand rr8 (.reg .b) s)

/-- `RR C` (R188). -/
def execRrC (s : State) : Result := finish (s.cfg.costCb 0x19) (modifyOperand rr8 (.reg .c) s)

/-- `RR D` (R188). -/
def execRrD (s : State) : Result := finish (s.cfg.costCb 0x1A) (modifyOperand rr8 (.reg .d) s)

/-- `RR E` (R188). -/
def execRrE (s : State) : Result := finish (s.cfg.costCb 0x1B) (modifyOperand rr8 (.reg .e) s)

/-- `RR H` (R188). -/
def execRrH (s : State) : Result := finish (s.cfg.costCb 0x1C) (modifyOperand rr8 (.reg .h) s)

/-- `RR L` (R188). -/
def execRrL (s : State) : Result := finish (s.cfg.costCb 0x1D) (modifyOperand rr8 (.reg .l) s)

/-- `RR (HL)` (R188). -/
def execRrMemHl (s : State) : Result := finish (s.cfg.costCb 0x1E) (modifyOperand rr8 .memHl s)

/-- `RR A` (R188). -/
def execRrA (s : State) : Result := finish (s.cfg.costCb 0x1F) (modifyOperand rr8 (.reg .a) s)

/-- `SLA B` (R189). -/
def execSlaB (s : State) : Result := finish (s.cfg.costCb 0x20) (modifyOperand sla8 (.reg .b) s)

/-- `SLA C` (R189). -/
def execSlaC (s : State) : Result := finish (s.cfg.costCb 0x21) (modifyOperand sla8 (.reg .c) s)

/-- `SLA D` (R189). -/
def execSlaD (s : State) : Result := finish (s.cfg.costCb 0x22) (modifyOperand sla8 (.reg .d) s)

/-- `SLA E` (R189). -/
def execSlaE (s : State) : Result := finish (s.cfg.costCb 0x23) (modifyOperand sla8 (.reg .e) s)

/-- `SLA H` (R189). -/
def execSlaH (s : State) : Result := finish (s.cfg.costCb 0x24) (modifyOperand sla8 (.reg .h) s)

/-- `SLA L` (R189). -/
def execSlaL (s : State) : Result := finish (s.cfg.costCb 0x25) (modifyOperand sla8 (.reg .l) s)

/-- `SLA (HL)` (R189). -/
def execSlaMemHl (s : State) : Result := finish (s.cfg.costCb 0x26) (modifyOperand sla8 .memHl s)

/-- `SLA A` (R189). -/
def execSlaA (s : State) : Result := finish (s.cfg.costCb 0x27) (modifyOperand sla8 (.reg .a) s)

/-- `SRA B` (R190). -/
def execSraB (s : State) : Result := finish (s.cfg.costCb 0x28) (modifyOperand sra8 (.reg .b) s)

/-- `SRA C` (R190). -/
def execSraC (s : State) : Result := finish (s.cfg.costCb 0x29) (modifyOperand sra8 (.reg .c) s)

/-- `SRA D` (R190). -/
def execSraD (s : State) : Result := finish (s.cfg.costCb 0x2A) (modifyOperand sra8 (.reg .d) s)

/-- `SRA E` (R190). -/
def execSraE (s : State) : Result := finish (s.cfg.costCb 0x2B) (modifyOperand sra8 (.reg .e) s)

/-- `SRA H` (R190). -/
def execSraH (s : State) : Result := finish (s.cfg.costCb 0x2C) (modifyOperand sra8 (.reg .h) s)

/-- `SRA L` (R190). -/
def execSraL (s : State) : Result := finish (s.cfg.costCb 0x2D) (modifyOperand sra8 (.reg .l) s)

/-- `SRA (HL)` (R190). -/
def execSraMemHl (s : State) : Result := finish (s.cfg.costCb 0x2E) (modifyOperand sra8 .memHl s)

/-- `SRA A` (R190). -/
def execSraA (s : State) : Result := finish (s.cfg.costCb 0x2F) (modifyOperand sra8 (.reg .a) s)

/-- `SWAP B` (R191). -/
def execSwapB (s : State) : Result := finish (s.cfg.costCb 0x30) (modifyOperand swap8 (.reg .b) s)

/-- `SWAP C` (R191). -/
def execSwapC (s : State) : Result := finish (s.cfg.costCb 0x31) (modifyOperand swap8 (.reg .c) s)

/-- `SWAP D` (R191). -/
def execSwapD (s : State) : Result := finish (s.cfg.costCb 0x32) (modifyOperand swap8 (.reg .d) s)

/-- `SWAP E` (R191). -/
def execSwapE (s : State) : Result := finish (s.cfg.costCb 0x33) (modifyOperand swap8 (.reg .e) s)

/-- `SWAP H` (R191). -/
def execSwapH (s : State) : Result := finish (s.cfg.costCb 0x34) (modifyOperand swap8 (.reg .h) s)

/-- `SWAP L` (R191). -/
def execSwapL (s : State) : Result := finish (s.cfg.costCb 0x35) (modifyOperand swap8 (.reg .l) s)

/-- `SWAP (HL)` (R191). -/
def execSwapMemHl (s : State) : Result := finish (s.cfg.costCb 0x36) (modifyOperand swap8 .memHl s)

/-- `SWAP A` (R191). -/
def execSwapA (s : State) : Result := finish (s.cfg.costCb 0x37) (modifyOperand swap8 (.reg .a) s)

/-- `SRL B` (R192). -/
def execSrlB (s : State) : Result := finish (s.cfg.costCb 0x38) (modifyOperand srl8 (.reg .b) s)

/-- `SRL C` (R192). -/
def execSrlC (s : State) : Result := finish (s.cfg.costCb 0x39) (modifyOperand srl8 (.reg .c) s)

/-- `SRL D` (R192). -/
def execSrlD (s : State) : Result := finish (s.cfg.costCb 0x3A) (modifyOperand srl8 (.reg .d) s)

/-- `SRL E` (R192). -/
def execSrlE (s : State) : Result := finish (s.cfg.costCb 0x3B) (modifyOperand srl8 (.reg .e) s)

/-- `SRL H` (R192). -/
def execSrlH (s : State) : Result := finish (s.cfg.costCb 0x3C) (modifyOperand srl8 (.reg .h) s)

/-- `SRL L` (R192). -/
def execSrlL (s : State) : Result := finish (s.cfg.costCb 0x3D) (modifyOperand srl8 (.reg .l) s)

/-- `SRL (HL)` (R192). -/
def execSrlMemHl (s : State) : Result := finish (s.cfg.costCb 0x3E) (modifyOperand srl8 .memHl s)

/-- `SRL A` (R192). -/
def execSrlA (s : State) : Result := finish (s.cfg.costCb 0x3F) (modifyOperand srl8 (.reg .a) s)

end Sys2Proof.Machine
end

