-- ==== Sys2Proof/Machine/System.lean ====
section
/-! DEFINITION. Machine/System.lean: system instructions (rules R220 to R226). -/

namespace Sys2Proof.Machine

/-! ## NOP, HALT, STOP, DI, EI -/

/-- `NOP` (R220). -/
def execNop (s : State) : Result := finish (s.cfg.cost 0x00) (.ok s)

/-- `STOP` (R222). -/
def execStop (_pad : Byte) (_s : State) : Result := .fault .stop

/-- `HALT` (R221). -/
def execHalt (s : State) : Result := finish (s.cfg.cost 0x76) (.ok (s.setHalted true))

/-- `DI` (R223). -/
def execDi (s : State) : Result := finish (s.cfg.cost 0xF3) (.ok (s.setIme false))

/-- `EI` (R224). -/
def execEi (s : State) : Result := finish (s.cfg.cost 0xFB) (.ok (s.setIme true))

/-! ## Unrecognized first bytes -/

/-- `unrecognized 0xD3` (R226). -/
def execUnrecognizedD3 (s : State) : Result := finish s.cfg.cycUnrecognized (.ok s)

/-- `unrecognized 0xDB` (R226). -/
def execUnrecognizedDB (s : State) : Result := finish s.cfg.cycUnrecognized (.ok s)

/-- `unrecognized 0xDD` (R226). -/
def execUnrecognizedDD (s : State) : Result := finish s.cfg.cycUnrecognized (.ok s)

/-- `unrecognized 0xE3` (R226). -/
def execUnrecognizedE3 (s : State) : Result := finish s.cfg.cycUnrecognized (.ok s)

/-- `unrecognized 0xE4` (R226). -/
def execUnrecognizedE4 (s : State) : Result := finish s.cfg.cycUnrecognized (.ok s)

/-- `unrecognized 0xEB` (R226). -/
def execUnrecognizedEB (s : State) : Result := finish s.cfg.cycUnrecognized (.ok s)

/-- `unrecognized 0xEC` (R226). -/
def execUnrecognizedEC (s : State) : Result := finish s.cfg.cycUnrecognized (.ok s)

/-- `unrecognized 0xED` (R226). -/
def execUnrecognizedED (s : State) : Result := finish s.cfg.cycUnrecognized (.ok s)

/-- `unrecognized 0xF4` (R226). -/
def execUnrecognizedF4 (s : State) : Result := finish s.cfg.cycUnrecognized (.ok s)

/-- `unrecognized 0xFC` (R226). -/
def execUnrecognizedFC (s : State) : Result := finish s.cfg.cycUnrecognized (.ok s)

/-- `unrecognized 0xFD` (R226). -/
def execUnrecognizedFD (s : State) : Result := finish s.cfg.cycUnrecognized (.ok s)

end Sys2Proof.Machine
end

