-- ==== Sys2Proof/Machine/Fetch.lean ====
section
/-! DEFINITION. Machine/Fetch.lean: fetching and decoding at the program counter (rule R90), and placing an instruction
where the next step fetches. -/

namespace Sys2Proof.Machine

/-- The bytes of the instruction at `pc`, as many as its first byte calls for, in address order (rules R65, R90); the
bytes it does not take are not read and count as 0. -/
def fetchBytes (s : State) : Except Fault (Byte × Byte × Byte) :=
  match busRead s s.cpu.pc with
  | .error f => .error f
  | .ok op =>
    match lengthOfWith s.cfg.prefixByte op with
    | .one => .ok (op, 0, 0)
    | .two =>
      match busRead s (s.cpu.pc + 1) with
      | .error f => .error f
      | .ok n1 => .ok (op, n1, 0)
    | .three =>
      match busRead s (s.cpu.pc + 1) with
      | .error f => .error f
      | .ok n1 =>
        match busRead s (s.cpu.pc + 2) with
        | .error f => .error f
        | .ok n2 => .ok (op, n1, n2)

/-- `FetchDecode()` (rule R90): the instruction, and the state with `pc` advanced past it. -/
def fetchDecode (s : State) : Except Fault (Instr × State) :=
  match fetchBytes s with
  | .error f => .error f
  | .ok (op, n1, n2) =>
    .ok (decodeOpWith s.cfg.prefixByte op n1 n2,
      s.setPc (s.cpu.pc + BitVec.ofNat 16 (lengthOfWith s.cfg.prefixByte op).toNat))

/-- S1 of rule R235 (rule R236): a halted CPU with nothing pending takes no step. -/
def State.staysHalted (s : State) : Bool := s.cpu.halted && !s.hasPending

/-! ## Placing an instruction -/

/-- Puts a byte into the unit that owns an address: into the ROM's image where it is ROM. -/
def State.poke (s : State) (a : Word) (v : Byte) : State :=
  match s.owner a with
  | .bootRom => { s with cfg := { s.cfg with bootRom := s.cfg.bootRom.write a.toNat v } }
  | .cartRom => { s with cfg := { s.cfg with cartRom := s.cfg.cartRom.write (s.cartIndex a.toNat) v } }
  | o => s.store o a.toNat v

/-- Puts three bytes at `pc`, `pc + 1`, `pc + 2`. -/
def State.pokeAtPc (s : State) (b0 b1 b2 : Byte) : State :=
  ((s.poke s.cpu.pc b0).poke (s.cpu.pc + 1) b1).poke (s.cpu.pc + 2) b2

/-- Whether the three bytes at `pc` read back as given. -/
def State.readsAtPc (s : State) (b0 b1 b2 : Byte) : Bool :=
  match busRead s s.cpu.pc, busRead s (s.cpu.pc + 1), busRead s (s.cpu.pc + 2) with
  | .ok x0, .ok x1, .ok x2 => decide (x0 = b0 ∧ x1 = b1 ∧ x2 = b2)
  | _, _, _ => false

/-- The state with three bytes where the next step fetches: the CPU not halted, and the bytes at `pc`, or in work RAM at
0xC000 with `pc` there where they cannot be placed at `pc` (a gap, a register, a blocked range). -/
def State.placeBytes (s : State) (b0 b1 b2 : Byte) : State :=
  let t := (s.setHalted false).pokeAtPc b0 b1 b2
  if t.readsAtPc b0 b1 b2 then t
  else ((s.setHalted false).setPc 0xC000).pokeAtPc b0 b1 b2

end Sys2Proof.Machine
end

