-- ==== Sys2Proof/Machine/CpuStep.lean ====
section
/-! DEFINITION. Machine/CpuStep.lean: `CPU.step()` (rule R235). -/

namespace Sys2Proof.Machine

/-- `CPU.step()` (rule R235). A halted CPU with nothing pending returns 1 cycle (S1). Otherwise it is awake: it fetches,
advances `pc` and executes (S2), then the wake test and the service check follow (S3 to S5). -/
def cpuStep (s : State) : Host.Outcome State Fault Refusal :=
  if s.staysHalted then .next (s.setCycles Config.haltStepCost)
  else
    match fetchDecode (s.setHalted false) with
    | .error f => .fault f
    | .ok (i, s1) => endOfInstruction (exec i s1)

end Sys2Proof.Machine
end

