-- ==== Sys2Proof/Machine/Render.lean ====
section
/-! DEFINITION. Machine/Render.lean: the scanline renderer (rules R258 to R262): tiles, background, window, sprites,
shades. It reads VRAM and the sprite cache directly, not through the bus (rule R262). -/

namespace Sys2Proof.Machine

/-- A 2-bit colour index (rule R258). -/
abbrev Colour := BitVec 2

/-- What produced a pixel: with `PALETTE_MODE = register` it selects the palette register (rule R261). -/
inductive Layer where
  | background
  | sprite0
  | sprite1
  deriving DecidableEq, Repr

/-- One entry of the row being drawn. -/
structure Pixel where
  colour : Colour
  layer : Layer
  deriving DecidableEq, Repr

/-- `VRAM[a]`, by bus address, without contention (rule R262). -/
def State.vramByte (s : State) (a : Nat) : Byte := s.ram.read a

/-- `OAM[i]`, by offset, without contention (rule R262). -/
def State.oamByte (s : State) (i : Nat) : Byte := s.ram.read (0xFE00 + i)

/-- `tileAddr(t)` (rule R258): unsigned from 0x8000, or from 0x8800 with a bias of 128. -/
def tileAddr (lcdc t : Byte) : Nat :=
  if lcdc.getLsbD 4 then 0x8000 + 16 * t.toNat else 0x8800 + 16 * ((t.toNat + 128) % 256)

/-- `tilePixel(addr, r, k)` (rule R258): bit `7 - k` of the high plane, then of the low plane. -/
def tilePixel (s : State) (addr r k : Nat) : Colour :=
  BitVec.ofBool ((s.vramByte (addr + 2 * r + 1)).getLsbD (7 - k)) ++
    BitVec.ofBool ((s.vramByte (addr + 2 * r)).getLsbD (7 - k))

/-- The base of a tile map (rule R32): bit 0x9C00, else 0x9800. -/
def mapBase (high : Bool) : Nat := if high then 0x9C00 else 0x9800

/-- The pixel at column `x`, row `y` of the plane of a tile map (rules R258, R259). -/
def mapPixel (s : State) (base x y : Nat) : Colour :=
  tilePixel s (tileAddr s.ppu.lcdc (s.vramByte (base + 32 * (y / 8) + x / 8))) (y % 8) (x % 8)

/-- `bgPixel(px, line)` (rule R258). -/
def bgPixel (s : State) (px line : Nat) : Colour :=
  mapPixel s (mapBase (s.ppu.lcdc.getLsbD 3)) ((px + s.ppu.scx.toNat) % 256) ((line + s.ppu.scy.toNat) % 256)

/-- `windowActive(line)` (rule R259). -/
def windowActive (s : State) (line : Nat) : Bool :=
  s.ppu.lcdc.getLsbD 5 && decide (s.ppu.wy.toNat ≤ line)

/-- `winPixel(px, line)` (rule R259), used where `px >= WX - 7`. -/
def winPixel (s : State) (px line : Nat) : Colour :=
  mapPixel s (mapBase (s.ppu.lcdc.getLsbD 6)) (px + 7 - s.ppu.wx.toNat) (line - s.ppu.wy.toNat)

/-- The background or window pixel of a line (rule R261). -/
def basePixel (s : State) (line px : Nat) : Pixel :=
  { colour := if windowActive s line && decide (s.ppu.wx.toNat ≤ px + 7) then winPixel s px line else bgPixel s px line,
    layer := .background }

/-- The palette a sprite selects: attribute bit 4 (rules R260, R261). -/
def Sprite.layer (o : Sprite) : Layer := if o.attr.getLsbD 4 then .sprite1 else .sprite0

/-- The colour of a sprite's column `c` on a line (rule R260): 8 wide, attribute bit 5 flips it horizontally, tile data
always unsigned from 0x8000. -/
def spriteColour (s : State) (line : Nat) (o : Sprite) (c : Nat) : Colour :=
  tilePixel s (0x8000 + 16 * o.tile.toNat) (line + 16 - o.y.toNat) (if o.attr.getLsbD 5 then 7 - c else c)

/-- Draws column `c` of a sprite over the row: nothing off the row, nothing for colour 0 (rule R260). -/
def drawSpriteColumn (s : State) (line : Nat) (o : Sprite) (row : List Pixel) (c : Nat) : List Pixel :=
  if o.x.toNat + c < 8 then row
  else if spriteColour s line o c = 0 then row
  else row.set (o.x.toNat + c - 8) { colour := spriteColour s line o c, layer := o.layer }

/-- Draws one cached sprite, columns 0 to 7 (rule R260). -/
def drawSprite (s : State) (line : Nat) (row : List Pixel) (o : Sprite) : List Pixel :=
  [0, 1, 2, 3, 4, 5, 6, 7].foldl (drawSpriteColumn s line o) row

/-- `drawSprites(line, row)`: the cached sprites in cache order, a later one over an earlier one (rule R260). -/
def drawSprites (s : State) (line : Nat) (row : List Pixel) : List Pixel :=
  s.ppu.cache.foldl (drawSprite s line) row

/-- The row of pixels of a line (rule R261). -/
def renderRow (s : State) (line : Nat) : List Pixel :=
  let row := (List.range Config.columns).map (basePixel s line)
  if s.ppu.lcdc.getLsbD 1 then drawSprites s line row else row

/-- `SHADE[v]` (rule R261). -/
def shadeOf (sh : Shades) (v : Colour) : Rgb :=
  if v = 0 then sh.s0 else if v = 1 then sh.s1 else if v = 2 then sh.s2 else sh.s3

/-- `(pal >> (2 * v)) AND 3` (rule R261). -/
def paletteEntry (pal : Byte) (v : Colour) : Colour := pal.extractLsb' (2 * v.toNat) 2

/-- The palette register of a layer (rule R261). -/
def layerPalette (p : Ppu) : Layer → Byte
  | .background => p.bgp
  | .sprite0 => p.obp0
  | .sprite1 => p.obp1

/-- The RGB entry of a pixel (rule R261). -/
def pixelRgb (s : State) (x : Pixel) : Rgb :=
  match s.cfg.palette with
  | .direct => shadeOf s.cfg.shade x.colour
  | .register => shadeOf s.cfg.shade (paletteEntry (layerPalette s.ppu x.layer) x.colour)

/-- `renderLine(line)`: replaces row `line` of the pixel buffer (rule R261). -/
def renderLine (s : State) (line : Nat) : State :=
  { s with pb := s.pb.setRow line ((renderRow s line).map (pixelRgb s)) }

end Sys2Proof.Machine
end

