-- ==== Sys2Proof/Machine/PpuTick.lean ====
section
/-! DEFINITION. Machine/PpuTick.lean: the PPU's mode machine (rules R250 to R256), its sprite search (rule R257), and the
external agent and the host between two steps (rules R11, R246, R270). -/

namespace Sys2Proof.Machine

/-- LCDC bit 7, output enable (rule R32). -/
def Ppu.lcdOn (p : Ppu) : Bool := p.lcdc.getLsbD 7

/-- The cycles a mode lasts (rule R250). -/
def Mode.budget : Mode → Nat
  | .oamSearch => Config.oamSearchBudget
  | .lineRender => Config.lineRenderBudget
  | .hblank => Config.hblankBudget
  | .vblank => Config.vblankBudget

/-- The height of sprites: LCDC bit 2 (rules R32, R257). -/
def Ppu.spriteHeight (p : Ppu) : Nat := if p.lcdc.getLsbD 2 then 16 else 8

/-- Slot `i` of object memory (rule R257). -/
def spriteSlot (s : State) (i : Nat) : Sprite :=
  { y := s.oamByte (4 * i), x := s.oamByte (4 * i + 1), tile := s.oamByte (4 * i + 2), attr := s.oamByte (4 * i + 3) }

/-- `(y - 16) <= line and line < (y - 16) + h`, over the integers (rule R257). -/
def Sprite.covers (o : Sprite) (line h : Nat) : Bool :=
  decide (o.y.toNat ≤ line + 16) && decide (line + 16 < o.y.toNat + h)

/-- `scan(line)` (rule R257): the first ten of the 40 slots, in order, that cover the line. -/
def scanSprites (s : State) (line : Nat) : List Sprite :=
  (((List.range 40).map (spriteSlot s)).filter (fun o => o.covers line s.ppu.spriteHeight)).take Config.spritesPerLine

/-- `lineCompare()` (rule R256). -/
def lineCompare (s : State) : State :=
  if s.ppu.line = s.ppu.lyc.toNat then
    let t := { s with ppu := { s.ppu with lycEq := true } }
    if s.ppu.statSel.getLsbD 3 then t.raise .stat else t
  else { s with ppu := { s.ppu with lycEq := false } }

/-- The exit of OAM Search (rule R251). -/
def exitOamSearch (s : State) : State :=
  lineCompare { s with ppu := { s.ppu with cache := scanSprites s s.ppu.line, mode := .lineRender } }

/-- The exit of Line Render (rule R251). -/
def exitLineRender (s : State) : State :=
  let t := renderLine s s.ppu.line
  lineCompare { t with ppu := { t.ppu with line := t.ppu.line + 1, mode := .hblank } }

/-- The exit of HBlank (rules R251, R253): VBlank after the last visible line, and its interrupt on entry. -/
def exitHblank (s : State) : State :=
  if s.ppu.line = Config.visibleLines then
    lineCompare (State.raise { s with ppu := { s.ppu with mode := .vblank } } .vblank)
  else lineCompare { s with ppu := { s.ppu with mode := .oamSearch } }

/-- The end of a VBlank line (rules R251, R254): no line compare but at the wrap to line 0. -/
def endVblankLine (s : State) : State :=
  if s.ppu.line + 1 = Config.totalLines then
    lineCompare { s with ppu := { s.ppu with line := 0, mode := .oamSearch } }
  else { s with ppu := { s.ppu with line := s.ppu.line + 1 } }

/-- The exit actions of the current mode (rule R251). -/
def exitMode (s : State) : State :=
  match s.ppu.mode with
  | .oamSearch => exitOamSearch s
  | .lineRender => exitLineRender s
  | .hblank => exitHblank s
  | .vblank => endVblankLine s

/-- The loop of rule R251, at most `n` times: while `cnt` has reached the budget, subtract it and leave the mode. -/
def tickLoop : Nat → State → State
  | 0, s => s
  | n + 1, s =>
    if s.ppu.mode.budget ≤ s.ppu.cnt then
      tickLoop n (exitMode { s with ppu := { s.ppu with cnt := s.ppu.cnt - s.ppu.mode.budget } })
    else s

/-- `PPU.tick(c)` (rules R251, R255). Every turn of the loop takes at least 80 from `cnt`, so it ends within
`cnt / 80` turns. -/
def ppuTick (c : Nat) (s : State) : State :=
  if s.ppu.lcdOn then
    tickLoop ((s.ppu.cnt + c) / Config.oamSearchBudget) { s with ppu := { s.ppu with cnt := s.ppu.cnt + c } }
  else { s with ppu := { s.ppu with mode := .hblank, line := 0, cnt := 0 } }

/-! ## The external agent and the host -/

/-- One raise of a source outside the CORE, if it is made (rule R232). -/
def State.raiseIf (s : State) (b : Bool) (src : Source) : State := if b then s.raise src else s

/-- What the timer does between two steps (rule R246): under `external` it may raise IF bit 2. -/
def timerAgent (e : AgentEvent) (s : State) : State :=
  match s.cfg.timer with
  | .external => s.raiseIf e.timer .timer
  | .none => s

/-- What the joypad and the host do between two steps (rule R270): under `external` IF bit 4 may be raised and the
buttons may change. -/
def joypadAgent (e : AgentEvent) (s : State) : State :=
  match s.cfg.joypad with
  | .external =>
    let t := s.raiseIf e.joypad .joypad
    match e.buttons with
    | some k => { t with buttons := k }
    | none => t
  | .none => s

/-- The external agent and then the host, after the PPU's tick (rule R11): the next entry of `agent`, nothing when there
is none. The timer's registers may have changed (rule R246). -/
def externalAgent (s : State) : State :=
  match s.agent with
  | [] => { s with timerEpoch := s.timerEpoch + 1 }
  | e :: es => joypadAgent e (timerAgent e { s with timerEpoch := s.timerEpoch + 1, agent := es })

/-- What follows one CPU step that returned `s.cycles` (rule R11). -/
def afterCpuStep (s : State) : State := externalAgent (ppuTick s.cycles s)

end Sys2Proof.Machine
end

