-- ==== Sys2Proof/Machine/Step.lean ====
section
/-! DEFINITION. Machine/Step.lean: one turn of the driving loop (rule R11): `CPU.step()`, the PPU's tick with the cycles it
returned, the external agent and the host. -/

namespace Sys2Proof.Machine

/-- One turn of the driving loop (rules R11, R68). -/
def step (s : State) : Host.Outcome State Fault Refusal :=
  match cpuStep s with
  | .next t => .next (afterCpuStep t)
  | .fault f => .fault f
  | .refused r => .refused r

/-- The state with the instruction whose bits are `w` placed where the next step fetches it (rule R105's numbering). -/
def State.withFetchWord (s : State) (nbits w : Nat) : State :=
  s.placeBytes (tableByte nbits w 0) (tableByte nbits w 1) (tableByte nbits w 2)

end Sys2Proof.Machine
end

