-- ==== Sys2Proof/Safety.lean ====
section
/-! DEFINITION. Safety.lean: the invariant of the machine, what counts as a safe run, and the words the statements use for
what an instruction leaves unchanged. -/

namespace Sys2Proof.Machine

/-! ## The invariant -/

/-- The line index a mode may have (rules R30, R253, R254). -/
def Mode.lineOk : Mode → Nat → Prop
  | .oamSearch, n => n < Config.visibleLines
  | .lineRender, n => n < Config.visibleLines
  | .hblank, n => n ≤ Config.visibleLines
  | .vblank, n => Config.visibleLines ≤ n ∧ n < Config.totalLines

/-- The PPU's internal state as rules R30 and R251 to R257 leave it between two steps. -/
structure Ppu.Legal (p : Ppu) : Prop where
  cnt_lt : p.cnt < p.mode.budget
  line_ok : p.mode.lineOk p.line
  cache_le : p.cache.length ≤ Config.spritesPerLine

/-- What every step keeps: the parameters are those of a machine that can be built (rule R56), memory and the pixel buffer
are in canonical form, the PPU's state is legal, the selected bank is not 0 (rule R57). -/
structure State.Inv (s : State) : Prop where
  cfg_wf : s.cfg.wellFormed = true
  ram_wf : s.ram.wf = true
  pb_wf : s.pb.wf = true
  ppu_legal : s.ppu.Legal
  bank_ne : s.romBank ≠ 0

/-! ## Safe runs -/

/-- The step meets none of the three stops of rule R12. -/
def Safe (s : State) : Prop := ∃ t, step s = .next t

/-- The first `n` steps meet none of the stops. -/
def SafeFor : Nat → State → Prop
  | 0, _ => True
  | n + 1, s => ∃ t, step s = .next t ∧ SafeFor n t

/-- `t` comes from `s` in some number of steps. -/
inductive Reaches (s : State) : State → Prop where
  | refl : Reaches s s
  | tail {t u : State} : Reaches s t → step t = .next u → Reaches s u

/-! ## What is left unchanged -/

/-- Every address but the touched ones reads as before. -/
def SameOutside (s t : State) (touched : Word → Bool) : Prop :=
  ∀ b, touched b = false → busRead t b = busRead s b

/-- Outside what the bus shows nothing differs: the CPU, the parameters, the pixel buffer, the PPU's internal state, the
buttons, the cycle count, the agent's script. -/
structure OnlyMemory (s t : State) : Prop where
  cpu : t.cpu = s.cpu
  cfg : t.cfg = s.cfg
  pb : t.pb = s.pb
  mode : t.ppu.mode = s.ppu.mode
  cnt : t.ppu.cnt = s.ppu.cnt
  line : t.ppu.line = s.ppu.line
  cache : t.ppu.cache = s.ppu.cache
  lycEq : t.ppu.lycEq = s.ppu.lycEq
  buttons : t.buttons = s.buttons
  cycles : t.cycles = s.cycles
  agent : t.agent = s.agent

/-! ## What an instruction costs -/

/-- The count of an instruction under a configuration (rules R90, R102, R226): the entry of its first byte in `CYC`, or of
its second in `CYC_CB` after the prefix, plus `CYC_TAKEN_EXTRA` for a conditional transfer whose condition the flags meet;
`CYC_UNRECOGNIZED` for the bytes that name no instruction. -/
def costOf (c : Config) (i : Instr) (f : Flags) : Nat :=
  match i.isUnrecognized, encode i with
  | true, _ => c.cycUnrecognized
  | false, [] => 0
  | false, op :: rest =>
    if op = 0xCB then c.costCb (rest.headD 0)
    else c.cost op +
      match i.cond with
      | some cc => if condHolds cc f then c.takenExtra op else 0
      | none => 0

/-- The cost parameters are the tables of rule R320. -/
structure DefaultCosts (c : Config) : Prop where
  cyc : c.cyc = Config.default.cyc
  cycCb : c.cycCb = Config.default.cycCb
  cycTakenExtra : c.cycTakenExtra = Config.default.cycTakenExtra
  cycUnrecognized : c.cycUnrecognized = Config.default.cycUnrecognized

/-- Instruction `i` completes in state `s`: the next state is `t` with the count the parameters give the instruction, which
is `n` at their defaults. -/
def Completes (i : Instr) (s t : State) (n : Nat) : Prop :=
  exec i s = .next (t.setCycles (costOf s.cfg i s.cpu.flags)) ∧ costOf Config.default i s.cpu.flags = n

/-! ## What a store does and leaves alone -/

/-- Instruction `i` stores `v` at `a` and nothing else through the bus, in `n` cycles by default: the write succeeds, the
instruction completes with what `g` makes of the state after it, no address the write does not touch reads otherwise,
nothing off the bus differs. -/
def StoresByte (i : Instr) (s : State) (a : Word) (v : Byte) (n : Nat) (g : State → State) : Prop :=
  ∃ t, busWrite s a v = .ok t ∧ Completes i s (g t) n ∧ SameOutside s (g t) (writeTouches s a) ∧ OnlyMemory s t

/-- Instruction `i` stores `v1` at `a1`, then `v2` at `a2`, and nothing else through the bus, in `n` cycles by default. -/
def StoresTwo (i : Instr) (s : State) (a1 : Word) (v1 : Byte) (a2 : Word) (v2 : Byte) (n : Nat) (g : State → State) :
    Prop :=
  ∃ t1 t2, busWrite s a1 v1 = .ok t1 ∧ busWrite t1 a2 v2 = .ok t2 ∧ Completes i s (g t2) n ∧
    SameOutside s (g t2) (fun b => writeTouches s a1 b || writeTouches t1 a2 b) ∧ OnlyMemory s t2

/-! ## What an instruction accesses -/

/-- The addresses an instruction reads data from through the bus, in order (rules R65, R129). -/
def dataReads (i : Instr) (s : State) : List Word :=
  match i with
  | .incMemHl | .decMemHl | .ldBMemHl | .ldCMemHl | .ldDMemHl | .ldEMemHl | .ldHMemHl | .ldLMemHl
  | .ldAMemHl | .addAMemHl | .adcAMemHl | .subMemHl | .sbcAMemHl | .andMemHl | .xorMemHl | .orMemHl
  | .cpMemHl | .rlcMemHl | .rrcMemHl | .rlMemHl | .rrMemHl | .slaMemHl | .sraMemHl | .swapMemHl | .srlMemHl
  | .bit0MemHl | .bit1MemHl | .bit2MemHl | .bit3MemHl | .bit4MemHl | .bit5MemHl | .bit6MemHl | .bit7MemHl
  | .res0MemHl | .res1MemHl | .res2MemHl | .res3MemHl | .res4MemHl | .res5MemHl | .res6MemHl | .res7MemHl
  | .set0MemHl | .set1MemHl | .set2MemHl | .set3MemHl | .set4MemHl | .set5MemHl | .set6MemHl | .set7MemHl
  | .ldAMemHlInc | .ldAMemHlDec => [s.hl]
  | .ldAMemBc => [s.bc]
  | .ldAMemDe => [s.de]
  | .ldAMemA16 a16 => [a16]
  | .ldhAMemA8 a8 => [highPage a8]
  | .ldAMemC => [highPage s.cpu.c]
  | .popBc | .ret | .popDe | .reti | .popHl | .popAf => [s.cpu.sp, s.cpu.sp + 1]
  | .retNz => if condHolds .nz s.cpu.flags then [s.cpu.sp, s.cpu.sp + 1] else []
  | .retZ => if condHolds .z s.cpu.flags then [s.cpu.sp, s.cpu.sp + 1] else []
  | .retNc => if condHolds .nc s.cpu.flags then [s.cpu.sp, s.cpu.sp + 1] else []
  | .retC => if condHolds .c s.cpu.flags then [s.cpu.sp, s.cpu.sp + 1] else []
  | _ => []

/-- The addresses an instruction stores to through the bus, in order (rules R65, R129). -/
def storeAddrs (i : Instr) (s : State) : List Word :=
  match i with
  | .incMemHl | .decMemHl | .ldMemHlD8 _ | .ldMemHlB | .ldMemHlC | .ldMemHlD | .ldMemHlE | .ldMemHlH
  | .ldMemHlL | .ldMemHlA | .rlcMemHl | .rrcMemHl | .rlMemHl | .rrMemHl | .slaMemHl | .sraMemHl
  | .swapMemHl | .srlMemHl | .res0MemHl | .res1MemHl | .res2MemHl | .res3MemHl | .res4MemHl | .res5MemHl
  | .res6MemHl | .res7MemHl | .set0MemHl | .set1MemHl | .set2MemHl | .set3MemHl | .set4MemHl | .set5MemHl
  | .set6MemHl | .set7MemHl | .ldMemHlIncA | .ldMemHlDecA => [s.hl]
  | .ldMemBcA => [s.bc]
  | .ldMemDeA => [s.de]
  | .ldMemA16A a16 => [a16]
  | .ldhMemA8A a8 => [highPage a8]
  | .ldMemCA => [highPage s.cpu.c]
  | .ldMemA16Sp a16 => [a16, a16 + 1]
  | .pushBc | .rst00 | .callA16 _ | .rst08 | .pushDe | .rst10 | .rst18 | .pushHl | .rst20 | .rst28
  | .pushAf | .rst30 | .rst38 => [s.cpu.sp - 1, s.cpu.sp - 2]
  | .callNzA16 _ => if condHolds .nz s.cpu.flags then [s.cpu.sp - 1, s.cpu.sp - 2] else []
  | .callZA16 _ => if condHolds .z s.cpu.flags then [s.cpu.sp - 1, s.cpu.sp - 2] else []
  | .callNcA16 _ => if condHolds .nc s.cpu.flags then [s.cpu.sp - 1, s.cpu.sp - 2] else []
  | .callCA16 _ => if condHolds .c s.cpu.flags then [s.cpu.sp - 1, s.cpu.sp - 2] else []
  | _ => []

/-! ## What an instruction does to the flags -/

/-- What the summary of rule R150 says of one flag: unchanged, forced to 0, forced to 1, computed (or popped). -/
inductive FlagEffect where
  | kept | zero | one | computed
  deriving DecidableEq, Repr

/-- `after` is what the effect leaves of a flag that was `before`. -/
def FlagEffect.Allows (e : FlagEffect) (before after : Bool) : Prop :=
  match e with
  | .kept => after = before
  | .zero => after = false
  | .one => after = true
  | .computed => True

/-- The summary of rule R150, line by line: the effects on Z, N, H and C. -/
def flagEffects (i : Instr) : FlagEffect × FlagEffect × FlagEffect × FlagEffect :=
  match i with
  | .addAB | .addAC | .addAD | .addAE | .addAH | .addAL | .addAMemHl | .addAA | .adcAB | .adcAC | .adcAD
  | .adcAE | .adcAH | .adcAL | .adcAMemHl | .adcAA | .addAD8 _ | .adcAD8 _ =>
    (.computed, .zero, .computed, .computed)
  | .subB | .subC | .subD | .subE | .subH | .subL | .subMemHl | .subA | .sbcAB | .sbcAC | .sbcAD | .sbcAE
  | .sbcAH | .sbcAL | .sbcAMemHl | .sbcAA | .cpB | .cpC | .cpD | .cpE | .cpH | .cpL | .cpMemHl | .cpA
  | .subD8 _ | .sbcAD8 _ | .cpD8 _ =>
    (.computed, .one, .computed, .computed)
  | .andB | .andC | .andD | .andE | .andH | .andL | .andMemHl | .andA | .andD8 _ =>
    (.computed, .zero, .one, .zero)
  | .xorB | .xorC | .xorD | .xorE | .xorH | .xorL | .xorMemHl | .xorA | .orB | .orC | .orD | .orE | .orH
  | .orL | .orMemHl | .orA | .xorD8 _ | .orD8 _ =>
    (.computed, .zero, .zero, .zero)
  | .incB | .incC | .incD | .incE | .incH | .incL | .incMemHl | .incA =>
    (.computed, .zero, .computed, .kept)
  | .decB | .decC | .decD | .decE | .decH | .decL | .decMemHl | .decA =>
    (.computed, .one, .computed, .kept)
  | .daa =>
    (.computed, .kept, .zero, .computed)
  | .cpl =>
    (.kept, .one, .one, .kept)
  | .scf =>
    (.kept, .zero, .zero, .one)
  | .ccf =>
    (.kept, .zero, .zero, .computed)
  | .addHlBc | .addHlDe | .addHlHl | .addHlSp =>
    (.kept, .zero, .computed, .computed)
  | .addSpE8 _ | .ldHlSpE8 _ =>
    (.zero, .zero, .computed, .computed)
  | .rlca | .rrca | .rla | .rra =>
    (.zero, .zero, .zero, .computed)
  | .rlcB | .rlcC | .rlcD | .rlcE | .rlcH | .rlcL | .rlcMemHl | .rlcA | .rrcB | .rrcC | .rrcD | .rrcE
  | .rrcH | .rrcL | .rrcMemHl | .rrcA | .rlB | .rlC | .rlD | .rlE | .rlH | .rlL | .rlMemHl | .rlA | .rrB
  | .rrC | .rrD | .rrE | .rrH | .rrL | .rrMemHl | .rrA | .slaB | .slaC | .slaD | .slaE | .slaH | .slaL
  | .slaMemHl | .slaA | .sraB | .sraC | .sraD | .sraE | .sraH | .sraL | .sraMemHl | .sraA | .srlB | .srlC
  | .srlD | .srlE | .srlH | .srlL | .srlMemHl | .srlA =>
    (.computed, .zero, .zero, .computed)
  | .swapB | .swapC | .swapD | .swapE | .swapH | .swapL | .swapMemHl | .swapA =>
    (.computed, .zero, .zero, .zero)
  | .bit0B | .bit0C | .bit0D | .bit0E | .bit0H | .bit0L | .bit0MemHl | .bit0A | .bit1B | .bit1C | .bit1D
  | .bit1E | .bit1H | .bit1L | .bit1MemHl | .bit1A | .bit2B | .bit2C | .bit2D | .bit2E | .bit2H | .bit2L
  | .bit2MemHl | .bit2A | .bit3B | .bit3C | .bit3D | .bit3E | .bit3H | .bit3L | .bit3MemHl | .bit3A
  | .bit4B | .bit4C | .bit4D | .bit4E | .bit4H | .bit4L | .bit4MemHl | .bit4A | .bit5B | .bit5C | .bit5D
  | .bit5E | .bit5H | .bit5L | .bit5MemHl | .bit5A | .bit6B | .bit6C | .bit6D | .bit6E | .bit6H | .bit6L
  | .bit6MemHl | .bit6A | .bit7B | .bit7C | .bit7D | .bit7E | .bit7H | .bit7L | .bit7MemHl | .bit7A =>
    (.computed, .zero, .one, .kept)
  | .popAf =>
    (.computed, .computed, .computed, .computed)
  | _ => (.kept, .kept, .kept, .kept)

/-! ## The three operand forms of the two-operand operations -/

/-- `AluForm op s i v n`: in state `s` the instruction `i` is the operation `op` on A and the second operand `v`, at a
default cost of `n` cycles (the three lines of rule R150's table of forms). -/
inductive AluForm (op : AluOp) (s : State) : Instr → Byte → Nat → Prop where
  | register (r : Reg) : AluForm op s (.aluR8 op (.reg r)) (s.reg r) 4
  | memory {v : Byte} (h : busRead s s.hl = .ok v) : AluForm op s (.aluR8 op .memHl) v 8
  | immediate (v : Byte) : AluForm op s (.aluD8 op v) v 8

end Sys2Proof.Machine
end

