-- ==== Sys2Proof/Certificates/Slice0/Obligations.lean ====
section
/-! DEFINITION. Certificates/Slice0/Obligations.lean: the statements for the provers. In every statement about `exec` the
program counter of the state is already the address after the instruction (rules R24, R90); `StepRunsDecodedInstruction`
says how a step reaches `exec`. `Completes i s t n` (Safety.lean) is the equation that `exec i s` answers `t` with the count
the parameters of rule R4 give the instruction, and that this count is `n` at the parameters' defaults. -/

open Sys2Proof Sys2Proof.Machine

/-! ## Encoding -/

/-- Decoding what the encoder writes gives the instruction back, with every operand at every value, and takes no byte more
(rules R91, R95, R98, R99). -/
def Obligations.DecodeEncodeRoundTrip : Prop :=
  ∀ (i : Instr) (rest : List Byte), i.wellFormed = true → decode (encode i ++ rest) = .ok (i, rest)

/-- Every three bytes or more start with exactly one instruction, one to three bytes long, and its encoding is the bytes
taken (rules R90, R101, R105). `PREFIX`, whatever its value, and the byte after it are decoded by the extended table; it
decides nothing else (rules R4, R90, R97). -/
def Obligations.DecodeIsTotal : Prop :=
  (∀ bs : List Byte, 3 ≤ bs.length →
    ∃ i : Instr, 1 ≤ i.length ∧ i.length ≤ 3 ∧ decode bs = .ok (i, bs.drop i.length) ∧ encode i = bs.take i.length) ∧
  (∀ (pfx sub : Byte) (rest : List Byte),
    decodeWith pfx (pfx :: sub :: rest) = .ok (decodeCb sub, rest) ∧ encode (decodeCb sub) = [0xCB, sub]) ∧
  (∀ (pfx op : Byte) (rest : List Byte), op ≠ pfx → decodeWith pfx (op :: rest) = decode (op :: rest)) ∧
  decode = decodeWith Config.default.prefixByte

/-- Exactly eleven first bytes name no instruction; each is one byte long and a no-op of `CYC_UNRECOGNIZED` cycles, by
default 4 (rules R100, R226). -/
def Obligations.UnrecognizedBytes : Prop :=
  (∀ op n1 n2 : Byte, (decodeOp op n1 n2).isUnrecognized = true ↔
    op ∈ ([0xD3, 0xDB, 0xDD, 0xE3, 0xE4, 0xEB, 0xEC, 0xED, 0xF4, 0xFC, 0xFD] : List Byte)) ∧
  ∀ i : Instr, i.isUnrecognized = true →
    (∃ op ∈ ([0xD3, 0xDB, 0xDD, 0xE3, 0xE4, 0xEB, 0xEC, 0xED, 0xF4, 0xFC, 0xFD] : List Byte), encode i = [op]) ∧
    ∀ s : State, exec i s = .next (s.setCycles s.cfg.cycUnrecognized) ∧ Config.default.cycUnrecognized = 4

/-- One encoding of each group of rules, written out from rules R98 and R99, decodes to the instruction it stands for. -/
def Obligations.SampleWordsDecode : Prop :=
  decode [0x41] = .ok (.ldBC, []) ∧ decode [0x06, 0xAB] = .ok (.ldBD8 0xAB, []) ∧
  decode [0xEA, 0x34, 0xC2] = .ok (.ldMemA16A 0xC234, []) ∧ decode [0x08, 0x00, 0xC1] = .ok (.ldMemA16Sp 0xC100, []) ∧
  decode [0xF5] = .ok (.pushAf, []) ∧ decode [0xCE, 0x01] = .ok (.adcAD8 0x01, []) ∧
  decode [0x39] = .ok (.addHlSp, []) ∧ decode [0x1F] = .ok (.rra, []) ∧ decode [0xCB, 0x36] = .ok (.swapMemHl, []) ∧
  decode [0xCB, 0x7C] = .ok (.bit7H, []) ∧ decode [0xCB, 0xDE] = .ok (.set3MemHl, []) ∧
  decode [0x38, 0xFE] = .ok (.jrCE8 0xFE, []) ∧ decode [0xCD, 0x34, 0x12] = .ok (.callA16 0x1234, []) ∧
  decode [0xEF] = .ok (.rst28, []) ∧ decode [0x76] = .ok (.halt, []) ∧ decode [0xFC] = .ok (.unrecognizedFC, [])

/-- When the bytes at the program counter decode, by the machine's `PREFIX`, to an instruction and the CPU is not halted with
nothing pending, the step moves `pc` past them, runs the instruction, checks for wake and interrupt, then feeds the PPU the
very count the CPU step returned, and last lets the outside act. A CPU halted with nothing pending feeds the PPU 1 (rules
R11, R68, R90, R235). -/
def Obligations.StepRunsDecodedInstruction : Prop :=
  ∀ s : State,
    (∀ (bs : List Byte) (i : Instr), decodeWith s.cfg.prefixByte bs = .ok (i, []) →
      ¬(s.cpu.halted = true ∧ s.ieReg &&& s.ifReg = 0) →
      (∀ (k : Nat) (h : k < bs.length), busRead s (s.cpu.pc + BitVec.ofNat 16 k) = .ok bs[k]) →
      step s =
        match endOfInstruction (exec i ((s.setHalted false).setPc (s.cpu.pc + BitVec.ofNat 16 bs.length))) with
        | .next t => .next (externalAgent (ppuTick t.cycles t))
        | .fault f => .fault f
        | .refused r => .refused r) ∧
    (s.cpu.halted = true → s.ieReg &&& s.ifReg = 0 → step s = .next (externalAgent (ppuTick 1 (s.setCycles 1))))

/-! ## Halt and interrupts -/

/-- A halted CPU with nothing pending changes nothing and returns 1 cycle; with something pending the step is that of the
CPU not halted; HALT halts, and is undone in its own step when something is pending (rules R221, R236, R237). -/
def Obligations.HaltAndWake : Prop :=
  ∀ s : State,
    (s.cpu.halted = true → s.ieReg &&& s.ifReg = 0 → cpuStep s = .next (s.setCycles 1)) ∧
    (s.cpu.halted = true → s.ieReg &&& s.ifReg ≠ 0 → cpuStep s = cpuStep (s.setHalted false)) ∧
    encode .halt = [0x76] ∧ Completes .halt s (s.setHalted true) 4 ∧
    (s.ieReg &&& s.ifReg ≠ 0 →
      endOfInstruction (exec .halt s) =
        endOfInstruction (.next ((s.setHalted false).setCycles (costOf s.cfg .halt s.cpu.flags))))

/-- The end of an instruction: without IME or without a pending request nothing is serviced; otherwise IME is cleared, `pc`
is pushed high byte first, the request found first after the two writes is cleared and its vector entered, 20 cycles are
added, and nothing else changes (rule R238). -/
def Obligations.InterruptService : Prop :=
  ∀ s : State,
    ((s.cpu.ime = false ∨ s.ieReg &&& s.ifReg = 0) → endOfInstruction (.next s) = .next (wakeAfter s)) ∧
    (s.cpu.ime = true → s.ieReg &&& s.ifReg ≠ 0 →
      storeOk (s.cpu.sp - 1) (hiByte s.cpu.pc) = true → storeOk (s.cpu.sp - 2) (loByte s.cpu.pc) = true →
      ∃ t1 t2, busWrite s (s.cpu.sp - 1) (hiByte s.cpu.pc) = .ok t1 ∧
        busWrite t1 (s.cpu.sp - 2) (loByte s.cpu.pc) = .ok t2 ∧ OnlyMemory s t2 ∧
        endOfInstruction (.next s) =
          match firstSource (t2.ieReg &&& t2.ifReg) with
          | none => .fault .pendingWithoutSource
          | some src =>
            .next { t2 with
              ifReg := t2.ifReg &&& (0xFF ^^^ src.mask)
              cpu := { s.cpu with ime := false, halted := false, sp := s.cpu.sp - 2, pc := src.vector s.cfg.vec }
              cycles := s.cycles + 20 })

/-- The vector is that of the first source in the order vertical-blank, graphics-status, timer, serial, joypad set in both
registers, by default 0x0040 plus 8 for each place; exactly its request bit is cleared; with none of the five there is no
vector (rule R234). -/
def Obligations.SourcePriority : Prop :=
  [Source.vblank, .stat, .timer, .serial, .joypad].map Source.bit = [0, 1, 2, 3, 4] ∧
  (∀ src : Source, src.vector Config.default.vec = BitVec.ofNat 16 (0x0040 + 8 * src.bit)) ∧
  (∀ v : Vectors, [Source.vblank, .stat, .timer, .serial, .joypad].map (fun src => src.vector v) =
    [v.v0, v.v1, v.v2, v.v3, v.v4]) ∧
  ∀ s : State,
    (∀ src : Source, (s.ieReg &&& s.ifReg).getLsbD src.bit = true →
      (∀ q : Source, q.bit < src.bit → (s.ieReg &&& s.ifReg).getLsbD q.bit = false) →
      pendingVector s =
        .ok (src.vector s.cfg.vec,
          { s with ifReg := s.ifReg &&& (0xFF ^^^ BitVec.ofNat 8 (2 ^ src.bit)) })) ∧
    (s.ieReg &&& s.ifReg &&& 0x1F = 0 → pendingVector s = .error .pendingWithoutSource)

/-- `raise` sets exactly the source's bit of IF, and twice is once (rule R232). What runs outside the CPU and the PPU after
a step changes no register, no memory and nothing of the PPU; of IF it only sets bits, bit 2 under the external timer
model and bit 4 under the external joypad model; the buttons change only under the latter (rules R11, R246, R270). -/
def Obligations.RequestsFromOutside : Prop :=
  ∀ s : State,
    (∀ src : Source, s.raise src = { s with ifReg := s.ifReg ||| BitVec.ofNat 8 (2 ^ src.bit) } ∧
      (s.raise src).raise src = s.raise src) ∧
    externalAgent s =
      { s with
        ifReg := (externalAgent s).ifReg
        buttons := (externalAgent s).buttons
        timerEpoch := s.timerEpoch + 1
        agent := s.agent.tail } ∧
    (externalAgent s).ifReg &&& 0xEB = s.ifReg &&& 0xEB ∧ s.ifReg &&& (externalAgent s).ifReg = s.ifReg ∧
    (s.cfg.timer = .none → (externalAgent s).ifReg.getLsbD 2 = s.ifReg.getLsbD 2) ∧
    (s.cfg.joypad = .none →
      (externalAgent s).ifReg.getLsbD 4 = s.ifReg.getLsbD 4 ∧ (externalAgent s).buttons = s.buttons)

/-- With the stack in work RAM, a service followed by RETI gives the interrupted program back every register it had, with
the request cleared and IME set again (rules R210, R238, R239). -/
def Obligations.ServiceThenReti : Prop :=
  ∀ s : State, s.ram.wf = true → s.cpu.ime = true → s.cpu.halted = false → s.ieReg &&& s.ifReg &&& 0x1F ≠ 0 →
    0xC002 ≤ s.cpu.sp.toNat → s.cpu.sp.toNat ≤ 0xE000 →
    ∃ t u, endOfInstruction (.next s) = .next t ∧ t.cpu.ime = false ∧ exec .reti t = .next u ∧
      u.cpu = s.cpu ∧ u.ifReg = t.ifReg ∧
      ∃ src : Source, t.cpu.pc = src.vector s.cfg.vec ∧ t.ifReg = s.ifReg &&& (0xFF ^^^ src.mask)

/-! ## What no instruction does, and what every instruction does -/

/-- IME changes only in EI, RETI and DI; `halted` is set only by HALT (rules R26, R27). -/
def Obligations.ControlBitsFrame : Prop :=
  ∀ (i : Instr) (s t : State), exec i s = .next t →
    t.cpu.ime = (match i with | .ei | .reti => true | .di => false | _ => s.cpu.ime) ∧
    t.cpu.halted = (match i with | .halt => true | _ => s.cpu.halted)

/-- Every instruction leaves each flag as the summary of rule R150 says: unchanged, forced or computed. -/
def Obligations.FlagsFrame : Prop :=
  ∀ (i : Instr) (s t : State), exec i s = .next t →
    (flagEffects i).1.Allows s.cpu.flags.z t.cpu.flags.z ∧ (flagEffects i).2.1.Allows s.cpu.flags.n t.cpu.flags.n ∧
    (flagEffects i).2.2.1.Allows s.cpu.flags.h t.cpu.flags.h ∧ (flagEffects i).2.2.2.Allows s.cpu.flags.c t.cpu.flags.c

/-- No instruction is refused, and none raises an exception: an instruction stops only at a gap or as STOP, a step only at
these or at a pending request without a source (rules R12, R230). -/
def Obligations.OnlyTheNamedStops : Prop :=
  (∀ (i : Instr) (s : State), (∀ x, exec i s ≠ .refused x) ∧
    ∀ f, exec i s = .fault f → (∃ a, f = .gap a ∧ isGap a = true) ∨ (f = .stop ∧ ∃ pad, i = .stop pad)) ∧
  ∀ s : State, (∀ x, step s ≠ .refused x) ∧
    ∀ f, step s = .fault f → (∃ a, f = .gap a ∧ isGap a = true) ∨ f = .stop ∨ f = .pendingWithoutSource

/-- Every instruction but STOP completes when no address it reads or stores to is a gap, and it does not start a DMA copy. -/
def Obligations.InstructionsComplete : Prop :=
  ∀ (i : Instr) (s : State), (∀ pad, i ≠ .stop pad) → (∀ a ∈ dataReads i s, isGap a = false) →
    (∀ a ∈ storeAddrs i s, isGap a = false ∧ a ≠ 0xFF46) → ∃ t, exec i s = .next t

/-- An access to a gap has no meaning: a read, a write, a fetch, the copy of the page that runs into one, and an
instruction whose first data access is there (rule R54). -/
def Obligations.GapAccessFaults : Prop :=
  (∀ (s : State) (a : Word) (v : Byte), isGap a = true →
    busRead s a = .error (.gap a) ∧ busWrite s a v = .error (.gap a)) ∧
  (∀ s : State, busWrite s 0xFF46 0xFF = .error (.gap 0xFF03)) ∧
  (∀ s : State, s.staysHalted = false → isGap s.cpu.pc = true → step s = .fault (.gap s.cpu.pc)) ∧
  ∀ (i : Instr) (s : State) (a : Word), (dataReads i s ++ storeAddrs i s).head? = some a → isGap a = true →
    exec i s = .fault (.gap a)

/-- An instruction that stores nothing changes nothing but the CPU and the count it returns: no byte of memory, no register
of a peripheral. -/
def Obligations.NonStoringFrame : Prop :=
  ∀ (i : Instr) (s t : State), storeAddrs i s = [] → exec i s = .next t →
    t = { s with cpu := t.cpu, cycles := t.cycles }

/-- Every instruction returns its entry of the cycle parameters: `CYC[op]`, `CYC_CB[sub]` after the prefix, or
`CYC_UNRECOGNIZED`, a conditional transfer `CYC_TAKEN_EXTRA[op]` more when its condition holds. With the parameters at their
defaults that is the count of the grid of rule R320, the second of its two when the condition holds. -/
def Obligations.CycleCounts : Prop :=
  ∀ (i : Instr) (s t : State), exec i s = .next t →
    t.cycles =
      (if i.isUnrecognized then s.cfg.cycUnrecognized
        else
          match encode i with
          | [] => 0
          | 0xCB :: sub => s.cfg.costCb (sub.headD 0)
          | op :: _ => s.cfg.cost op + if i.cond.any (condHolds · s.cpu.flags) then s.cfg.takenExtra op else 0) ∧
    (DefaultCosts s.cfg →
      t.cycles =
        match i.cond with
        | some cc => if condHolds cc s.cpu.flags then (cycOf i).2 else (cycOf i).1
        | none => (cycOf i).1)

/-- A CPU step leaves alone what only the PPU, the host and the outside change: the mode machine, the sprite cache, the
compare bit, the pixel buffer, the parameters, the buttons (rules R34, R68, R251). With the cycle parameters at their
defaults it returns 1 to 44 cycles, 4 at least when the CPU does not stay halted (rule R320). -/
def Obligations.CpuStepFrame : Prop :=
  ∀ s t : State, cpuStep s = .next t →
    (t.ppu.mode = s.ppu.mode ∧ t.ppu.cnt = s.ppu.cnt ∧ t.ppu.line = s.ppu.line ∧
      t.ppu.cache = s.ppu.cache ∧ t.ppu.lycEq = s.ppu.lycEq ∧ t.pb = s.pb ∧ t.cfg = s.cfg ∧ t.buttons = s.buttons ∧
      t.agent = s.agent) ∧
    (DefaultCosts s.cfg → 1 ≤ t.cycles ∧ t.cycles ≤ 44 ∧ (s.staysHalted = false → 4 ≤ t.cycles))

/-! ## Loads -/

/-- LD r,r'; LD r,d8; LD r,(HL): the destination register holds the source, nothing else changes (rules R110 to R112). -/
def Obligations.LoadRegister : Prop :=
  ∀ (s : State) (r q : Reg) (v : Byte),
    (encode (.ldR8R8 (.reg r) (.reg q)) = [0x40 + 8 * r.code + q.code] ∧
      Completes (.ldR8R8 (.reg r) (.reg q)) s (s.setReg r (s.reg q)) 4) ∧
    (encode (.ldR8D8 (.reg r) v) = [0x06 + 8 * r.code, v] ∧
      Completes (.ldR8D8 (.reg r) v) s (s.setReg r v) 8) ∧
    encode (.ldR8R8 (.reg r) .memHl) = [0x46 + 8 * r.code] ∧
    (busRead s s.hl = .ok v → Completes (.ldR8R8 (.reg r) .memHl) s (s.setReg r v) 8)

/-- The loads of A from memory: the addresses of rules R115, R116, R119, R121, R123, and HL stepped after the read in R126
and R128. -/
def Obligations.LoadAccumulator : Prop :=
  ∀ (s : State) (v a8 : Byte) (a16 : Word),
    (encode .ldAMemBc = [0x0A] ∧
      (busRead s s.bc = .ok v → Completes .ldAMemBc s (s.setReg .a v) 8)) ∧
    (encode .ldAMemDe = [0x1A] ∧
      (busRead s s.de = .ok v → Completes .ldAMemDe s (s.setReg .a v) 8)) ∧
    (encode (.ldAMemA16 a16) = [0xFA, loByte a16, hiByte a16] ∧
      (busRead s a16 = .ok v → Completes (.ldAMemA16 a16) s (s.setReg .a v) 16)) ∧
    (encode (.ldhAMemA8 a8) = [0xF0, a8] ∧
      (busRead s (0xFF00 + a8.setWidth 16) = .ok v →
        Completes (.ldhAMemA8 a8) s (s.setReg .a v) 12)) ∧
    (encode .ldAMemC = [0xF2] ∧
      (busRead s (0xFF00 + s.cpu.c.setWidth 16) = .ok v →
        Completes .ldAMemC s (s.setReg .a v) 8)) ∧
    (encode .ldAMemHlInc = [0x2A] ∧
      (busRead s s.hl = .ok v →
        Completes .ldAMemHlInc s ((s.setReg .a v).setHl (s.hl + 1)) 8)) ∧
    encode .ldAMemHlDec = [0x3A] ∧
    (busRead s s.hl = .ok v → Completes .ldAMemHlDec s ((s.setReg .a v).setHl (s.hl - 1)) 8)

/-- The 8-bit stores: the byte stored, its address, HL stepped after the write in R125 and R127, and nothing else changed
(rules R113, R114, R117, R118, R120, R122, R124, R125, R127). -/
def Obligations.StoreByte : Prop :=
  ∀ (s : State) (r : Reg) (v a8 : Byte) (a16 : Word),
    (encode (.ldR8R8 .memHl (.reg r)) = [0x70 + r.code] ∧
      (storeOk s.hl (s.reg r) = true →
        StoresByte (.ldR8R8 .memHl (.reg r)) s s.hl (s.reg r) 8 id)) ∧
    (encode (.ldMemHlD8 v) = [0x36, v] ∧
      (storeOk s.hl v = true → StoresByte (.ldMemHlD8 v) s s.hl v 12 id)) ∧
    (encode .ldMemBcA = [0x02] ∧
      (storeOk s.bc s.cpu.a = true → StoresByte .ldMemBcA s s.bc s.cpu.a 8 id)) ∧
    (encode .ldMemDeA = [0x12] ∧
      (storeOk s.de s.cpu.a = true → StoresByte .ldMemDeA s s.de s.cpu.a 8 id)) ∧
    (encode (.ldMemA16A a16) = [0xEA, loByte a16, hiByte a16] ∧
      (storeOk a16 s.cpu.a = true → StoresByte (.ldMemA16A a16) s a16 s.cpu.a 16 id)) ∧
    (encode (.ldhMemA8A a8) = [0xE0, a8] ∧
      (storeOk (0xFF00 + a8.setWidth 16) s.cpu.a = true →
        StoresByte (.ldhMemA8A a8) s (0xFF00 + a8.setWidth 16) s.cpu.a 12 id)) ∧
    (encode .ldMemCA = [0xE2] ∧
      (storeOk (0xFF00 + s.cpu.c.setWidth 16) s.cpu.a = true →
        StoresByte .ldMemCA s (0xFF00 + s.cpu.c.setWidth 16) s.cpu.a 8 id)) ∧
    (encode .ldMemHlIncA = [0x22] ∧
      (storeOk s.hl s.cpu.a = true →
        StoresByte .ldMemHlIncA s s.hl s.cpu.a 8 (fun t => t.setHl (s.hl + 1)))) ∧
    encode .ldMemHlDecA = [0x32] ∧
    (storeOk s.hl s.cpu.a = true →
      StoresByte .ldMemHlDecA s s.hl s.cpu.a 8 (fun t => t.setHl (s.hl - 1)))

/-- LD rr,d16; LD SP,HL; INC rr; DEC rr; ADD HL,rr: the pair, the flags of ADD HL (Z kept, carries out of bits 11 and 15),
no other flag (rules R140, R142, R170 to R172). -/
def Obligations.PairInstructions : Prop :=
  ∀ (s : State) (r : RR) (w : Word),
    (encode (.ldRrD16 r w) = [0x01 + 16 * r.code, loByte w, hiByte w] ∧
      Completes (.ldRrD16 r w) s (s.setRr r w) 12) ∧
    (encode .ldSpHl = [0xF9] ∧ Completes .ldSpHl s (s.setSp s.hl) 8) ∧
    (encode (.incRr r) = [0x03 + 16 * r.code] ∧
      Completes (.incRr r) s (s.setRr r (BitVec.ofNat 16 ((s.rr r).toNat + 1))) 8) ∧
    (encode (.decRr r) = [0x0B + 16 * r.code] ∧
      Completes (.decRr r) s (s.setRr r (BitVec.ofNat 16 ((s.rr r).toNat + 0xFFFF))) 8) ∧
    encode (.addHlRr r) = [0x09 + 16 * r.code] ∧
    Completes (.addHlRr r) s ((s.setHl (BitVec.ofNat 16 (s.hl.toNat + (s.rr r).toNat))).setFlags
        { z := s.cpu.flags.z, n := false,
          h := decide (s.hl.toNat % 0x1000 + (s.rr r).toNat % 0x1000 > 0x0FFF),
          c := decide (s.hl.toNat + (s.rr r).toNat > 0xFFFF) }) 8

/-- LD (a16),SP: the low byte at `a16`, then the high byte at the next address (rule R141). -/
def Obligations.StoreStackPointer : Prop :=
  ∀ (s : State) (a : Word),
    encode (.ldMemA16Sp a) = [0x08, loByte a, hiByte a] ∧
    (storeOk a (loByte s.cpu.sp) = true → storeOk (a + 1) (hiByte s.cpu.sp) = true →
      StoresTwo (.ldMemA16Sp a) s a (loByte s.cpu.sp) (a + 1) (hiByte s.cpu.sp) 20 id)

/-- LD HL,SP+e8 and ADD SP,e8: the signed displacement, Z and N cleared, H and C those of the unsigned addition of the low
bytes (rules R143, R173). -/
def Obligations.SpPlusDisplacement : Prop :=
  ∀ (s : State) (u : Byte),
    let fl : Flags :=
      { z := false, n := false, h := decide (s.cpu.sp.toNat % 16 + u.toNat % 16 > 0x0F),
        c := decide (s.cpu.sp.toNat % 256 + u.toNat > 0xFF) }
    (encode (.ldHlSpE8 u) = [0xF8, u] ∧
      Completes (.ldHlSpE8 u) s ((s.setHl (BitVec.ofInt 16 (s.cpu.sp.toNat + u.toInt))).setFlags fl) 12) ∧
    encode (.addSpE8 u) = [0xE8, u] ∧
    Completes (.addSpE8 u) s ((s.setSp (BitVec.ofInt 16 (s.cpu.sp.toNat + u.toInt))).setFlags fl) 16

/-! ## The stack -/

/-- PUSH qq: the high byte at SP - 1, then the low byte at SP - 2, where SP then points (rule R144). -/
def Obligations.PushPair : Prop :=
  ∀ (s : State) (q : QQ),
    encode (.pushQq q) = [0xC5 + 16 * q.code] ∧
    (storeOk (s.cpu.sp - 1) (hiByte (s.qq q)) = true → storeOk (s.cpu.sp - 2) (loByte (s.qq q)) = true →
      StoresTwo (.pushQq q) s (s.cpu.sp - 1) (hiByte (s.qq q)) (s.cpu.sp - 2) (loByte (s.qq q))
        16 (fun t => t.setSp (s.cpu.sp - 2)))

/-- POP qq: the low byte from SP, the high byte from SP + 1; POP AF takes the flags from bits 7 to 4 of the low byte and
drops the rest (rules R145, R146). -/
def Obligations.PopPair : Prop :=
  ∀ (s : State) (l h : Byte), busRead s s.cpu.sp = .ok l → busRead s (s.cpu.sp + 1) = .ok h →
    (∀ q : QQ, encode (.popQq q) = [0xC1 + 16 * q.code]) ∧
    Completes .popBc s (((s.setSp (s.cpu.sp + 2)).setReg .b h).setReg .c l) 12 ∧
    Completes .popDe s (((s.setSp (s.cpu.sp + 2)).setReg .d h).setReg .e l) 12 ∧
    Completes .popHl s (((s.setSp (s.cpu.sp + 2)).setReg .h h).setReg .l l) 12 ∧
    Completes .popAf s (((s.setSp (s.cpu.sp + 2)).setReg .a h).setFlags
        ⟨l.getLsbD 7, l.getLsbD 6, l.getLsbD 5, l.getLsbD 4⟩) 12 ∧
    ∀ t, exec .popAf s = .next t → t.f = l &&& 0xF0

/-- With the stack in work RAM, what PUSH pushes POP pops, into any pair; F keeps no low nibble (rules R8, R144 to R146). -/
def Obligations.PushPopRoundTrip : Prop :=
  ∀ (s : State) (q p : QQ), s.ram.wf = true → 0xC002 ≤ s.cpu.sp.toNat → s.cpu.sp.toNat ≤ 0xE000 →
    ∃ t u, exec (.pushQq q) s = .next t ∧ exec (.popQq p) t = .next u ∧ u.cpu.sp = s.cpu.sp ∧
      u.qq p = if p = .af then s.qq q &&& 0xFFF0 else s.qq q

/-! ## 8-bit arithmetic and logic -/

/-- ADD and ADC in the three forms: A holds the sum modulo 256; Z, H and C by the sums, N cleared (rules R151, R152). -/
def Obligations.AddWithCarry : Prop :=
  (∀ (op : AluOp) (r : R8), encode (.aluR8 op r) = [0x80 + 8 * op.code + r.code]) ∧
  (∀ (op : AluOp) (v : Byte), encode (.aluD8 op v) = [0xC6 + 8 * op.code, v]) ∧
  ∀ (s : State) (i : Instr) (v : Byte) (n : Nat),
    (AluForm .add s i v n →
      Completes i s ((s.setReg .a (BitVec.ofNat 8 (s.cpu.a.toNat + v.toNat))).setFlags
        { z := decide ((s.cpu.a.toNat + v.toNat) % 256 = 0), n := false,
          h := decide (s.cpu.a.toNat % 16 + v.toNat % 16 > 0x0F),
          c := decide (s.cpu.a.toNat + v.toNat > 0xFF) }) n) ∧
    (AluForm .adc s i v n →
      Completes i s ((s.setReg .a (BitVec.ofNat 8 (s.cpu.a.toNat + v.toNat + s.cpu.flags.c.toNat))).setFlags
          { z := decide ((s.cpu.a.toNat + v.toNat + s.cpu.flags.c.toNat) % 256 = 0), n := false,
            h := decide (s.cpu.a.toNat % 16 + v.toNat % 16 + s.cpu.flags.c.toNat > 0x0F),
            c := decide (s.cpu.a.toNat + v.toNat + s.cpu.flags.c.toNat > 0xFF) }) n)

/-- SUB, SBC and CP in the three forms: the difference modulo 256 in A (CP keeps A); Z by it, N set, H and C the borrows
into bits 4 and 8 (rules R153, R154, R158). -/
def Obligations.SubtractAndCompare : Prop :=
  (∀ r : R8, encode (.aluR8 .sub r) = [0x90 + r.code] ∧ encode (.aluR8 .sbc r) = [0x98 + r.code] ∧
    encode (.aluR8 .cp r) = [0xB8 + r.code]) ∧
  (∀ v : Byte, encode (.aluD8 .sub v) = [0xD6, v] ∧ encode (.aluD8 .sbc v) = [0xDE, v] ∧
    encode (.aluD8 .cp v) = [0xFE, v]) ∧
  ∀ (s : State) (i : Instr) (v : Byte) (n : Nat),
    let fl : Flags :=
      { z := decide (s.cpu.a = v), n := true, h := decide (s.cpu.a.toNat % 16 < v.toNat % 16),
        c := decide (s.cpu.a.toNat < v.toNat) }
    (AluForm .sub s i v n →
      Completes i s ((s.setReg .a (BitVec.ofInt 8 (s.cpu.a.toNat - v.toNat))).setFlags fl) n) ∧
    (AluForm .cp s i v n → Completes i s (s.setFlags fl) n) ∧
    (AluForm .sbc s i v n →
      Completes i s ((s.setReg .a (BitVec.ofInt 8 (s.cpu.a.toNat - v.toNat - s.cpu.flags.c.toNat))).setFlags
          { z := decide (BitVec.ofInt 8 (s.cpu.a.toNat - v.toNat - s.cpu.flags.c.toNat) = 0), n := true,
            h := decide (s.cpu.a.toNat % 16 < v.toNat % 16 + s.cpu.flags.c.toNat),
            c := decide (s.cpu.a.toNat < v.toNat + s.cpu.flags.c.toNat) }) n)

/-- AND, XOR and OR in the three forms: bit by bit, Z by the result, H set by AND alone, N and C cleared (rules R155 to
R157). -/
def Obligations.BitwiseLogic : Prop :=
  (∀ r : R8, encode (.aluR8 .and r) = [0xA0 + r.code] ∧ encode (.aluR8 .xor r) = [0xA8 + r.code] ∧
    encode (.aluR8 .or r) = [0xB0 + r.code]) ∧
  (∀ v : Byte, encode (.aluD8 .and v) = [0xE6, v] ∧ encode (.aluD8 .xor v) = [0xEE, v] ∧
    encode (.aluD8 .or v) = [0xF6, v]) ∧
  ∀ (s : State) (i : Instr) (v : Byte) (n : Nat),
    (AluForm .and s i v n → Completes i s ((s.setReg .a (s.cpu.a &&& v)).setFlags
      ⟨decide (s.cpu.a &&& v = 0), false, true, false⟩) n) ∧
    (AluForm .xor s i v n → Completes i s ((s.setReg .a (s.cpu.a ^^^ v)).setFlags
      ⟨decide (s.cpu.a ^^^ v = 0), false, false, false⟩) n) ∧
    (AluForm .or s i v n → Completes i s ((s.setReg .a (s.cpu.a ||| v)).setFlags
      ⟨decide (s.cpu.a ||| v = 0), false, false, false⟩) n)

/-- INC and DEC of a register and of the byte at HL: one read, one write at the same address, Z, N and H by the byte read,
C kept (rules R159 to R162). -/
def Obligations.IncrementDecrement : Prop :=
  ∀ (s : State) (r : Reg) (v : Byte),
    (encode (.incR8 (.reg r)) = [0x04 + 8 * r.code] ∧ encode (.decR8 (.reg r)) = [0x05 + 8 * r.code] ∧
      encode .incMemHl = [0x34] ∧ encode .decMemHl = [0x35]) ∧
    Completes (.incR8 (.reg r)) s ((s.setReg r (BitVec.ofNat 8 ((s.reg r).toNat + 1))).setFlags
      ⟨decide (s.reg r = 0xFF), false, decide ((s.reg r).toNat % 16 = 0x0F), s.cpu.flags.c⟩) 4 ∧
    Completes (.decR8 (.reg r)) s ((s.setReg r (BitVec.ofNat 8 ((s.reg r).toNat + 0xFF))).setFlags
      ⟨decide (s.reg r = 0x01), true, decide ((s.reg r).toNat % 16 = 0x00), s.cpu.flags.c⟩) 4 ∧
    (busRead s s.hl = .ok v → storeOk s.hl (BitVec.ofNat 8 (v.toNat + 1)) = true →
      StoresByte .incMemHl s s.hl (BitVec.ofNat 8 (v.toNat + 1)) 12 fun t =>
        t.setFlags ⟨decide (v = 0xFF), false, decide (v.toNat % 16 = 0x0F), s.cpu.flags.c⟩) ∧
    (busRead s s.hl = .ok v → storeOk s.hl (BitVec.ofNat 8 (v.toNat + 0xFF)) = true →
      StoresByte .decMemHl s s.hl (BitVec.ofNat 8 (v.toNat + 0xFF)) 12 fun t =>
        t.setFlags ⟨decide (v = 0x01), true, decide (v.toNat % 16 = 0x00), s.cpu.flags.c⟩)

/-- DAA as its rule computes it (rule R163). -/
def Obligations.DecimalAdjust : Prop :=
  ∀ s : State,
    let a := s.cpu.a.toNat
    let f := s.cpu.flags
    let low : Bool := f.h || (!f.n && decide (a % 16 > 9))
    let high : Bool := f.c || (!f.n && decide (a > 0x99))
    let corr : Nat := (if low then 0x06 else 0) + (if high then 0x60 else 0)
    let w : Byte := if f.n then BitVec.ofInt 8 (a - corr) else BitVec.ofNat 8 (a + corr)
    encode .daa = [0x27] ∧
    Completes .daa s ((s.setReg .a w).setFlags ⟨decide (w = 0), f.n, false, high⟩) 4

/-- DAA after ADD or SUB of two packed decimal numbers of two digits leaves the packed decimal sum or difference modulo 100,
and C the decimal carry or borrow (rules R151, R153, R163). -/
def Obligations.DecimalAdjustIsDecimal : Prop :=
  ∀ (s : State) (x y : Nat), x < 100 → y < 100 → s.cpu.a = BitVec.ofNat 8 (16 * (x / 10) + x % 10) →
    let d : Byte := BitVec.ofNat 8 (16 * (y / 10) + y % 10)
    (∃ t u, exec (.aluD8 .add d) s = .next t ∧ exec .daa t = .next u ∧
      u.cpu.a = BitVec.ofNat 8 (16 * ((x + y) % 100 / 10) + (x + y) % 10) ∧ u.cpu.flags.c = decide (100 ≤ x + y)) ∧
    ∃ t u, exec (.aluD8 .sub d) s = .next t ∧ exec .daa t = .next u ∧
      u.cpu.a = BitVec.ofNat 8 (16 * ((x + 100 - y) % 100 / 10) + (x + 100 - y) % 10) ∧
      u.cpu.flags.c = decide (x < y)

/-- CPL, SCF and CCF (rules R164 to R166). -/
def Obligations.ComplementAndCarry : Prop :=
  ∀ s : State,
    (encode .cpl = [0x2F] ∧ Completes .cpl s ((s.setReg .a (~~~s.cpu.a)).setFlags
      ⟨s.cpu.flags.z, true, true, s.cpu.flags.c⟩) 4) ∧
    (encode .scf = [0x37] ∧ Completes .scf s (s.setFlags ⟨s.cpu.flags.z, false, false, true⟩) 4) ∧
    encode .ccf = [0x3F] ∧ Completes .ccf s (s.setFlags ⟨s.cpu.flags.z, false, false, !s.cpu.flags.c⟩) 4

/-! ## Rotates, shifts, bits -/

/-- RLCA, RLA, RRCA, RRA: the rotate of A, C the bit shifted out, Z cleared whatever the result (rules R180 to R183). -/
def Obligations.AccumulatorRotates : Prop :=
  ∀ s : State,
    let v := s.cpu.a
    let cin : Bool := s.cpu.flags.c
    let top : Flags := ⟨false, false, false, v.getLsbD 7⟩
    let bottom : Flags := ⟨false, false, false, v.getLsbD 0⟩
    (encode .rlca = [0x07] ∧
      Completes .rlca s ((s.setReg .a (v <<< 1 ||| (if v.getLsbD 7 then 0x01 else 0))).setFlags top) 4) ∧
    (encode .rla = [0x17] ∧
      Completes .rla s ((s.setReg .a (v <<< 1 ||| (if cin then 0x01 else 0))).setFlags top) 4) ∧
    (encode .rrca = [0x0F] ∧
      Completes .rrca s ((s.setReg .a (v >>> 1 ||| (if v.getLsbD 0 then 0x80 else 0))).setFlags bottom) 4) ∧
    encode .rra = [0x1F] ∧
      Completes .rra s ((s.setReg .a (v >>> 1 ||| (if cin then 0x80 else 0))).setFlags bottom) 4

/-- The eight prefixed rotates and shifts on a register and on the byte at HL: the result by the rule's formula, Z by it, N
and H cleared, C the bit shifted out (SWAP clears it) (rules R185 to R192). -/
def Obligations.PrefixedRotates : Prop :=
  ∀ (s : State) (op : RotOp) (v : Byte),
    let cin : Bool := s.cpu.flags.c
    let w : Byte :=
      match op with
      | .rlc => v <<< 1 ||| (if v.getLsbD 7 then 0x01 else 0)
      | .rrc => v >>> 1 ||| (if v.getLsbD 0 then 0x80 else 0)
      | .rl => v <<< 1 ||| (if cin then 0x01 else 0)
      | .rr => v >>> 1 ||| (if cin then 0x80 else 0)
      | .sla => v <<< 1
      | .sra => v >>> 1 ||| (v &&& 0x80)
      | .swap => v <<< 4 ||| v >>> 4
      | .srl => v >>> 1
    let out : Bool :=
      match op with
      | .rlc | .rl | .sla => v.getLsbD 7
      | .rrc | .rr | .sra | .srl => v.getLsbD 0
      | .swap => false
    (∀ r : R8, encode (.rotR8 op r) = [0xCB, 8 * op.code + r.code]) ∧
    (∀ r : Reg, s.reg r = v →
      Completes (.rotR8 op (.reg r)) s ((s.setReg r w).setFlags ⟨decide (w = 0), false, false, out⟩) 8) ∧
    (busRead s s.hl = .ok v → storeOk s.hl w = true →
      StoresByte (.rotR8 op .memHl) s s.hl w 16 fun t => t.setFlags ⟨decide (w = 0), false, false, out⟩)

/-- BIT b: Z set when the bit is 0, N cleared, H set, C kept, nothing written (rule R193). -/
def Obligations.TestBit : Prop :=
  ∀ (s : State) (b : Oct) (v : Byte),
    let fl : Flags := ⟨!v.getLsbD b.toNat, false, true, s.cpu.flags.c⟩
    (∀ r : R8, encode (.bitR8 b r) = [0xCB, 0x40 + 8 * BitVec.ofNat 8 b.toNat + r.code]) ∧
    (∀ r : Reg, s.reg r = v → Completes (.bitR8 b (.reg r)) s (s.setFlags fl) 8) ∧
    (busRead s s.hl = .ok v → Completes (.bitR8 b .memHl) s (s.setFlags fl) 12)

/-- RES b and SET b on a register and on the byte at HL: that one bit cleared or set, no flag changed (rules R194, R195). -/
def Obligations.ResetAndSetBit : Prop :=
  ∀ (s : State) (b : Oct) (v : Byte),
    let m : Byte := (1 : Byte) <<< b.toNat
    (∀ r : R8, encode (.resR8 b r) = [0xCB, 0x80 + 8 * BitVec.ofNat 8 b.toNat + r.code] ∧
      encode (.setR8 b r) = [0xCB, 0xC0 + 8 * BitVec.ofNat 8 b.toNat + r.code]) ∧
    (∀ r : Reg, s.reg r = v →
      Completes (.resR8 b (.reg r)) s (s.setReg r (v &&& ~~~m)) 8 ∧
      Completes (.setR8 b (.reg r)) s (s.setReg r (v ||| m)) 8) ∧
    (busRead s s.hl = .ok v → storeOk s.hl (v &&& ~~~m) = true →
      StoresByte (.resR8 b .memHl) s s.hl (v &&& ~~~m) 16 id) ∧
    (busRead s s.hl = .ok v → storeOk s.hl (v ||| m) = true →
      StoresByte (.setR8 b .memHl) s s.hl (v ||| m) 16 id)

/-! ## Control transfer -/

/-- JP a16, JP HL, JR e8 and the conditional JP and JR: the target, and the base count with `pc` kept when the condition is
false (rules R200 to R205). -/
def Obligations.Jumps : Prop :=
  (∀ f : Flags, condHolds .nz f = !f.z ∧ condHolds .z f = f.z ∧ condHolds .nc f = !f.c ∧ condHolds .c f = f.c) ∧
  ∀ (s : State) (a : Word) (e : Byte) (cc : Cond),
    let rel : Word := BitVec.ofInt 16 (s.cpu.pc.toNat + e.toInt)
    (encode (.jpA16 a) = [0xC3, loByte a, hiByte a] ∧ Completes (.jpA16 a) s (s.setPc a) 16) ∧
    (encode .jpHl = [0xE9] ∧ Completes .jpHl s (s.setPc s.hl) 4) ∧
    (encode (.jrE8 e) = [0x18, e] ∧ Completes (.jrE8 e) s (s.setPc rel) 12) ∧
    (encode (.jpCc cc a) = [0xC2 + 8 * cc.code, loByte a, hiByte a] ∧
      Completes (.jpCc cc a) s (if condHolds cc s.cpu.flags then s.setPc a else s)
        (if condHolds cc s.cpu.flags then 16 else 12)) ∧
    encode (.jrCc cc e) = [0x20 + 8 * cc.code, e] ∧
    Completes (.jrCc cc e) s (if condHolds cc s.cpu.flags then s.setPc rel else s)
      (if condHolds cc s.cpu.flags then 12 else 8)

/-- CALL a16, CALL cc,a16 and RST t: `pc` pushed high byte first, the target entered; a CALL whose condition is false only
costs 12 cycles (rules R206, R207, R211). -/
def Obligations.Calls : Prop :=
  ∀ (s : State) (a : Word) (cc : Cond) (t : Oct),
    (encode (.callA16 a) = [0xCD, loByte a, hiByte a] ∧
      encode (.callCc cc a) = [0xC4 + 8 * cc.code, loByte a, hiByte a] ∧
      encode (.rst t) = [0xC7 + 8 * BitVec.ofNat 8 t.toNat]) ∧
    (condHolds cc s.cpu.flags = false → Completes (.callCc cc a) s s 12) ∧
    (storeOk (s.cpu.sp - 1) (hiByte s.cpu.pc) = true → storeOk (s.cpu.sp - 2) (loByte s.cpu.pc) = true →
      StoresTwo (.callA16 a) s (s.cpu.sp - 1) (hiByte s.cpu.pc) (s.cpu.sp - 2) (loByte s.cpu.pc)
        24 (fun u => (u.setSp (s.cpu.sp - 2)).setPc a) ∧
      (condHolds cc s.cpu.flags = true →
        StoresTwo (.callCc cc a) s (s.cpu.sp - 1) (hiByte s.cpu.pc) (s.cpu.sp - 2) (loByte s.cpu.pc)
          24 (fun u => (u.setSp (s.cpu.sp - 2)).setPc a)) ∧
      StoresTwo (.rst t) s (s.cpu.sp - 1) (hiByte s.cpu.pc) (s.cpu.sp - 2) (loByte s.cpu.pc)
        16 (fun u => (u.setSp (s.cpu.sp - 2)).setPc (BitVec.ofNat 16 (8 * t.toNat))))

/-- RET, RET cc and RETI: `pc` from the stack, low byte first, SP two higher, IME set by RETI alone; a RET whose condition
is false reads nothing and costs 8 cycles (rules R208 to R210). -/
def Obligations.Returns : Prop :=
  ∀ (s : State) (cc : Cond) (l h : Byte),
    (encode .ret = [0xC9] ∧ encode .reti = [0xD9] ∧ encode (.retCc cc) = [0xC0 + 8 * cc.code]) ∧
    (condHolds cc s.cpu.flags = false → Completes (.retCc cc) s s 8) ∧
    (busRead s s.cpu.sp = .ok l → busRead s (s.cpu.sp + 1) = .ok h →
      Completes .ret s ((s.setSp (s.cpu.sp + 2)).setPc (h ++ l)) 16 ∧
      (condHolds cc s.cpu.flags = true →
        Completes (.retCc cc) s ((s.setSp (s.cpu.sp + 2)).setPc (h ++ l)) 20) ∧
      Completes .reti s (((s.setSp (s.cpu.sp + 2)).setPc (h ++ l)).setIme true) 16)

/-- With the stack in work RAM, RET after CALL or RST gives back every register of the caller (rules R206, R208, R211). -/
def Obligations.CallReturnRoundTrip : Prop :=
  ∀ (s : State) (i : Instr), s.ram.wf = true → 0xC002 ≤ s.cpu.sp.toNat → s.cpu.sp.toNat ≤ 0xE000 →
    ((∃ a, i = .callA16 a) ∨ (∃ cc a, i = .callCc cc a ∧ condHolds cc s.cpu.flags = true) ∨ ∃ k, i = .rst k) →
    ∃ t u, exec i s = .next t ∧ t.cpu.sp = s.cpu.sp - 2 ∧ exec .ret t = .next u ∧ u.cpu = s.cpu

/-! ## System instructions -/

/-- NOP does nothing, DI clears and EI sets IME within the instruction (rules R220, R223, R224). -/
def Obligations.SystemInstructions : Prop :=
  ∀ s : State,
    (encode .nop = [0x00] ∧ Completes .nop s s 4) ∧
    (encode .di = [0xF3] ∧ Completes .di s (s.setIme false) 4) ∧
    encode .ei = [0xFB] ∧ Completes .ei s (s.setIme true) 4

/-- STOP has no meaning: every byte 0x10 decoded as an opcode is STOP, whatever follows, and STOP stops (rule R222). -/
def Obligations.StopFaults : Prop :=
  (∀ n1 n2 : Byte, decodeOp 0x10 n1 n2 = .stop n1) ∧
  (∀ pad : Byte, encode (.stop pad) = [0x10, pad]) ∧ ∀ (s : State) (pad : Byte), exec (.stop pad) s = .fault .stop

/-! ## The bus -/

/-- The floor lookup over the map of rule R53, its rows in any order, decodes every address to the owner the bus uses
(rules R51, R53). -/
def Obligations.AddressDecode : Prop :=
  ∀ (m : Bool) (l : List Region), l.Perm (addressMap m) → ∀ a : Word, resolve l a.toNat = owner m a.toNat

/-- Blocked ranges read `FILL`, by default 0xFF, and drop writes: video RAM in Line Render, object memory in OAM Search and,
by the fall-through, in Line Render; otherwise both are plain memory (rule R58). -/
def Obligations.Contention : Prop :=
  Config.default.fill = 0xFF ∧ ∀ (s : State) (a : Word) (v : Byte),
    (0x8000 ≤ a.toNat → a.toNat < 0xA000 →
      (s.ppu.mode = .lineRender → busRead s a = .ok s.cfg.fill ∧ busWrite s a v = .ok s) ∧
      (s.ppu.mode ≠ .lineRender →
        busRead s a = .ok (s.ram.read a.toNat) ∧ busWrite s a v = .ok { s with ram := s.ram.write a.toNat v })) ∧
    (0xFE00 ≤ a.toNat → a.toNat < 0xFEA0 →
      ((s.ppu.mode = .oamSearch ∨ (s.ppu.mode = .lineRender ∧ s.cfg.contention = .fallthrough)) →
        busRead s a = .ok s.cfg.fill ∧ busWrite s a v = .ok s) ∧
      (¬(s.ppu.mode = .oamSearch ∨ (s.ppu.mode = .lineRender ∧ s.cfg.contention = .fallthrough)) →
        busRead s a = .ok (s.ram.read a.toNat) ∧ busWrite s a v = .ok { s with ram := s.ram.write a.toNat v }))

/-- A write and then a read of the same address: the value written on a writable unit, on a read-only unit the value it
read before (rule R52). The units whose reads are recomputed (STAT, the joypad, the external timer) and a blocked range
are not covered. -/
def Obligations.WriteThenRead : Prop :=
  ∀ (s t : State) (a : Word) (v : Byte), s.ram.wf = true → busWrite s a v = .ok t →
    (match s.owner a with
      | .cram | .wram | .echo | .serial | .sound | .hram | .ifReg | .ieReg | .unmap | .lcdc | .scy | .scx | .lyc
      | .dma | .bgp | .obp0 | .obp1 | .wy | .wx => busRead t a = .ok v
      | .vram => s.vramBlocked = false → busRead t a = .ok v
      | .oam => s.oamBlocked = false → busRead t a = .ok v
      | .timer => s.cfg.timer = .none → busRead t a = .ok v
      | .bootRom | .cartRom | .ly => busRead t a = busRead s a
      | .stat | .joypad | .gap => True)

/-- What a write may change, and nothing else: the addresses rule R61 lists (its own, those of the hooks, the echo), and in
storage the one byte, or object memory under DMA. -/
def Obligations.WriteFrame : Prop :=
  ∀ (s t : State) (a : Word) (v : Byte), busWrite s a v = .ok t →
    SameOutside s t (writeTouches s a) ∧ OnlyMemory s t ∧
    (∀ k : Nat, k ≠ a.toNat → (s.owner a = .echo → k ≠ s.echoAddr a.toNat) →
      (s.owner a = .dma → k < 0xFE00 ∨ 0xFEA0 ≤ k) → t.ram.read k = s.ram.read k) ∧
    (s.owner a ≠ .cartRom → t.romBank = s.romBank)

/-- The cartridge: its bytes by type and bank, nothing stored by a write, and the bank select of type 0x01 with 0 read as 1
(rules R56, R57). -/
def Obligations.CartridgeRom : Prop :=
  ∀ (s : State) (a : Word) (v : Byte), a.toNat < 0x8000 → (s.bootMapped = false ∨ 0x0100 ≤ a.toNat) →
    (s.cfg.cartType = .flat →
      busRead s a = .ok (s.cfg.cartRom.read a.toNat) ∧ busWrite s a v = .ok s) ∧
    (s.cfg.cartType = .banked →
      busRead s a = .ok (s.cfg.cartRom.read
        (if a.toNat < 0x4000 then a.toNat
          else (s.romBank.toNat * 0x4000 + (a.toNat - 0x4000)) % s.cfg.cartLen)) ∧
      busWrite s a v = .ok
        (if 0x2000 ≤ a.toNat ∧ a.toNat < 0x4000 then
          { s with romBank := BitVec.ofNat 5 (max 1 (v.toNat % 32)) } else s))

/-- The boot ROM answers below 0x0100 while mapped and drops writes; a write to 0xFF50 stores its byte and unmaps it; no step
maps it again, in one step or in many (rule R55). -/
def Obligations.BootRomLeavesOnce : Prop :=
  (∀ (s : State) (a : Word) (v : Byte), a.toNat < 0x0100 → s.bootMapped = true →
    busRead s a = .ok (s.cfg.bootRom.read a.toNat) ∧ busWrite s a v = .ok s) ∧
  (∀ (s : State) (v : Byte), busWrite s 0xFF50 v = .ok { s with bootMapped := false, unmapReg := v }) ∧
  (∀ s t : State, step s = .next t → s.bootMapped = false → t.bootMapped = false) ∧
  ∀ s t : State, Reaches s t → s.bootMapped = false → t.bootMapped = false

/-- A write to the DMA register copies 160 bytes, as the bus reads them before the write, into object memory whatever the
PPU's mode, stores the byte, and changes nothing else (rule R62). -/
def Obligations.DmaCopies : Prop :=
  ∀ (s : State) (v : Byte), s.ram.wf = true → v ≠ 0xFF →
    ∃ m, busWrite s 0xFF46 v = .ok { s with ram := m, ppu := { s.ppu with dma := v } } ∧
      (∀ i : Nat, i < 160 →
        busRead s (BitVec.ofNat 16 (256 * v.toNat + i)) = .ok (m.read (0xFE00 + i))) ∧
      ∀ k : Nat, k < 0xFE00 ∨ 0xFEA0 ≤ k → m.read k = s.ram.read k

/-- STAT reads bit 7 as 0, bits 6 to 3 as stored, bit 2 as the compare flag and bits 1 to 0 as the mode, and stores bits 6
to 3; LY reads the line and drops writes; the joypad reads its select bits and, low for pressed, the selected buttons, and
stores bits 5 and 4 (rules R33, R270). -/
def Obligations.RecomputedRegisters : Prop :=
  ∀ (s : State) (v : Byte),
    (∃ b : Byte, busRead s 0xFF41 = .ok b ∧ b.getLsbD 7 = false ∧ b.extractLsb' 3 4 = s.ppu.statSel ∧
      b.getLsbD 2 = s.ppu.lycEq ∧
      b.toNat % 4 = (match s.ppu.mode with | .hblank => 0 | .vblank => 1 | .oamSearch => 2 | .lineRender => 3)) ∧
    busWrite s 0xFF41 v = .ok { s with ppu := { s.ppu with statSel := v.extractLsb' 3 4 } } ∧
    busRead s 0xFF44 = .ok (BitVec.ofNat 8 s.ppu.line) ∧ busWrite s 0xFF44 v = .ok s ∧
    (∃ b : Byte, busRead s 0xFF00 = .ok b ∧ b.extractLsb' 6 2 = 3 ∧ b.extractLsb' 4 2 = s.joypSel ∧
      b.getLsbD 0 = (!(!s.joypSel.getLsbD 0 && s.buttons.right) && !(!s.joypSel.getLsbD 1 && s.buttons.a)) ∧
      b.getLsbD 1 = (!(!s.joypSel.getLsbD 0 && s.buttons.left) && !(!s.joypSel.getLsbD 1 && s.buttons.b)) ∧
      b.getLsbD 2 = (!(!s.joypSel.getLsbD 0 && s.buttons.up) && !(!s.joypSel.getLsbD 1 && s.buttons.select)) ∧
      b.getLsbD 3 = (!(!s.joypSel.getLsbD 0 && s.buttons.down) && !(!s.joypSel.getLsbD 1 && s.buttons.start))) ∧
    busWrite s 0xFF00 v = .ok { s with joypSel := v.extractLsb' 4 2 }

/-! ## The PPU -/

/-- With output disabled every tick forces HBlank, line 0, count 0 and does nothing else (rule R255). With it enabled, from
OAM Search of line `n` with count 0: 79 cycles stay, 80 enter Line Render, 83 carry 3 over, 172 more enter HBlank with the
line incremented, 204 more the next line's OAM Search, or VBlank after line 143 (rule R252). -/
def Obligations.DisplayTiming : Prop :=
  (∀ (c : Nat) (s : State), s.ppu.lcdc.getLsbD 7 = false →
    ppuTick c s = { s with ppu := { s.ppu with mode := .hblank, line := 0, cnt := 0 } }) ∧
  ∀ (s : State) (n : Nat), s.ppu.lcdc.getLsbD 7 = true → s.ppu.mode = .oamSearch → s.ppu.cnt = 0 → s.ppu.line = n →
    n < 144 →
    let at_ : State → Mode × Nat × Nat := fun t => (t.ppu.mode, t.ppu.line, t.ppu.cnt)
    at_ (ppuTick 79 s) = (.oamSearch, n, 79) ∧ at_ (ppuTick 1 (ppuTick 79 s)) = (.lineRender, n, 0) ∧
    at_ (ppuTick 80 s) = (.lineRender, n, 0) ∧
    at_ (ppuTick 83 s) = (.lineRender, n, 3) ∧ at_ (ppuTick 172 (ppuTick 80 s)) = (.hblank, n + 1, 0) ∧
    at_ (ppuTick 204 (ppuTick 172 (ppuTick 80 s))) = (if n + 1 = 144 then .vblank else .oamSearch, n + 1, 0) ∧
    at_ (ppuTick 456 s) = (if n + 1 = 144 then .vblank else .oamSearch, n + 1, 0)

/-- The exit of a mode compares the new line with LYC: STAT bit 2 is the outcome, and a match raises the graphics-status
request when STAT bit 6 is set; a line of VBlank that is not the last makes no comparison; entering VBlank raises the
vertical-blank request (rules R253, R254, R256). -/
def Obligations.LineCompare : Prop :=
  ∀ s : State,
    let t := exitMode s
    let m : Bool := decide (t.ppu.line = s.ppu.lyc.toNat)
    let vb : Byte := if s.ppu.mode = .hblank ∧ s.ppu.line = 144 then 0x01 else 0
    let st : Byte := if m = true ∧ s.ppu.statSel.getLsbD 3 = true then 0x02 else 0
    if s.ppu.mode = .vblank ∧ s.ppu.line ≠ 153 then t.ppu.lycEq = s.ppu.lycEq ∧ t.ifReg = s.ifReg
    else t.ppu.lycEq = m ∧ t.ifReg = s.ifReg ||| vb ||| st

/-- The sprite search is the loop of rule R257: over the 40 slots in order, a slot that covers the line is appended while
fewer than ten are cached. The exit of OAM Search runs it for the current line. -/
def Obligations.SpriteSearch : Prop :=
  ∀ (s : State) (line : Nat),
    let h : Int := if s.ppu.lcdc.getLsbD 2 then 16 else 8
    (s.ppu.mode = .oamSearch → (exitMode s).ppu.cache = scanSprites s s.ppu.line) ∧
    scanSprites s line =
      (List.range 40).foldl
        (fun cache i =>
          let o : Sprite :=
            ⟨s.ram.read (0xFE00 + 4 * i), s.ram.read (0xFE00 + 4 * i + 1), s.ram.read (0xFE00 + 4 * i + 2),
              s.ram.read (0xFE00 + 4 * i + 3)⟩
          if (o.y.toNat : Int) - 16 ≤ line ∧ (line : Int) < (o.y.toNat : Int) - 16 + h ∧ cache.length < 10 then
            cache ++ [o] else cache)
        []

/-- The exit of Line Render draws the current line, and no other exit writes the pixel buffer. Drawing a line replaces one row
of 160 entries and changes nothing else. Each entry is written out here from the bytes of video RAM (rules R34, R258 to R262):
`plane` is a colour index from the two bit-planes of a tile row, `tile` the address of a tile, `map` the pixel of a tile map's
plane, `under` the window's pixel where the window covers the line and the column and else the scrolled background's, `ink`
what a cached sprite puts on a column (0 is nothing: off its 8 columns, or transparent), `shade` the ramp, through a palette
register only in `PALETTE_MODE = register`. Where no sprite inks the column, or sprites are off, the entry is `under`'s; else
it is the ink of the last sprite in the cache that inks it. -/
def Obligations.RendersOneRow : Prop :=
  ∀ (s : State) (line : Nat), s.pb.wf = true →
    let lcdc : Byte := s.ppu.lcdc
    let vram : Nat → Byte := fun a => s.ram.read a
    let plane : Nat → Nat → Nat → Nat := fun addr r k =>
      2 * ((vram (addr + 2 * r + 1)).getLsbD (7 - k)).toNat + ((vram (addr + 2 * r)).getLsbD (7 - k)).toNat
    let tile : Byte → Nat := fun t =>
      if lcdc.getLsbD 4 then 0x8000 + 16 * t.toNat else 0x8800 + 16 * ((t.toNat + 128) % 256)
    let map : Bool → Nat → Nat → Nat := fun high x y =>
      plane (tile (vram ((if high then 0x9C00 else 0x9800) + 32 * (y / 8) + x / 8))) (y % 8) (x % 8)
    let under : Nat → Nat := fun px =>
      if lcdc.getLsbD 5 = true ∧ s.ppu.wy.toNat ≤ line ∧ s.ppu.wx.toNat ≤ px + 7 then
        map (lcdc.getLsbD 6) (px + 7 - s.ppu.wx.toNat) (line - s.ppu.wy.toNat)
      else map (lcdc.getLsbD 3) ((px + s.ppu.scx.toNat) % 256) ((line + s.ppu.scy.toNat) % 256)
    let ink : Sprite → Nat → Nat := fun o px =>
      if o.x.toNat ≤ px + 8 ∧ px < o.x.toNat then
        plane (0x8000 + 16 * o.tile.toNat) (line + 16 - o.y.toNat)
          (if o.attr.getLsbD 5 then 7 - (px + 8 - o.x.toNat) else px + 8 - o.x.toNat)
      else 0
    let shade : Byte → Nat → Option Rgb := fun pal v =>
      [s.cfg.shade.s0, s.cfg.shade.s1, s.cfg.shade.s2, s.cfg.shade.s3][
        match s.cfg.palette with
        | .direct => v
        | .register => (pal >>> (2 * v)).toNat % 4]?
    let row := (renderLine s line).pb.row line
    (exitMode s).pb = (if s.ppu.mode = .lineRender then (renderLine s s.ppu.line).pb else s.pb) ∧
    renderLine s line = { s with pb := (renderLine s line).pb } ∧
    row.length = 160 ∧
    (∀ k, k ≠ line → (renderLine s line).pb.row k = s.pb.row k) ∧
    (∀ px, px < 160 → (lcdc.getLsbD 1 = false ∨ ∀ o ∈ s.ppu.cache, ink o px = 0) →
      row[px]? = shade s.ppu.bgp (under px)) ∧
    ∀ px, px < 160 → lcdc.getLsbD 1 = true →
      ∀ (before after : List Sprite) (o : Sprite), s.ppu.cache = before ++ o :: after → ink o px ≠ 0 →
        (∀ q ∈ after, ink q px = 0) →
        row[px]? = shade (if o.attr.getLsbD 4 then s.ppu.obp1 else s.ppu.obp0) (ink o px)

/-- Ticks add up, and 70,224 cycles of enabled output are one frame: the PPU is back at the same mode, line and count, and
the vertical-blank request has been raised (rules R250, R251). HBlank of line 0 is left out: it is entered only when output
is switched on (rule R255). -/
def Obligations.FrameOfTicks : Prop :=
  ∀ s : State, s.ppu.Legal → s.ppu.lcdc.getLsbD 7 = true →
    (∀ c d : Nat, ppuTick d (ppuTick c s) = ppuTick (c + d) s) ∧
    (¬(s.ppu.mode = .hblank ∧ s.ppu.line = 0) →
      (ppuTick 70224 s).ppu.mode = s.ppu.mode ∧ (ppuTick 70224 s).ppu.line = s.ppu.line ∧
      (ppuTick 70224 s).ppu.cnt = s.ppu.cnt ∧ (ppuTick 70224 s).ifReg.getLsbD 0 = true)

/-! ## The machine -/

/-- Every step keeps the invariant: canonical memory and pixel buffer, a legal mode, line and count, at most ten cached
sprites, a bank that is not 0, and the parameters themselves (rules R11, R30, R34, R57). -/
def Obligations.StepKeepsInv : Prop :=
  ∀ s t : State, s.Inv → step s = .next t → t.Inv ∧ t.cfg = s.cfg

/-- The invariant holds after reset, whatever well-formed parameters the machine is built with. -/
def Obligations.ResetInv : Prop :=
  State.reset.Inv ∧ ∀ (cfg : Config) (agent : List AgentEvent), cfg.wellFormed = true → (State.resetWith cfg agent).Inv

/-- The values the spec states for reset, for every choice of the parameters; the registers and RAM it leaves open come from
`INIT_REGS` and `INIT_RAM` (rule R40). -/
def Obligations.ResetState : Prop :=
  ∀ (cfg : Config) (agent : List AgentEvent),
    let s := State.resetWith cfg agent
    s.cpu.pc = 0x0000 ∧ s.cpu.ime = false ∧ s.cpu.halted = false ∧ s.f &&& 0x0F = 0 ∧ s.ifReg = 0x00 ∧ s.ieReg = 0x00 ∧
    s.ppu.mode = .oamSearch ∧ s.ppu.cnt = 0 ∧ s.ppu.line = 0 ∧ s.ppu.cache = [] ∧ s.ppu.lcdc = 0x00 ∧
    s.ppu.statSel = 0 ∧ s.ppu.lycEq = false ∧ s.ppu.scy = 0x00 ∧ s.ppu.scx = 0x00 ∧ s.ppu.lyc = 0x00 ∧
    s.ppu.dma = 0x00 ∧ s.ppu.bgp = 0x00 ∧ s.ppu.obp0 = 0x00 ∧ s.ppu.obp1 = 0x00 ∧ s.ppu.wy = 0x00 ∧ s.ppu.wx = 0x00 ∧
    s.bootMapped = true ∧ s.unmapReg = 0x00 ∧ s.romBank = 1 ∧
    s.cpu.sp = cfg.init.sp ∧ (∀ r : Reg, s.reg r =
      match r with
      | .a => cfg.init.a | .b => cfg.init.b | .c => cfg.init.c | .d => cfg.init.d | .e => cfg.init.e
      | .h => cfg.init.h | .l => cfg.init.l) ∧
    s.f &&& 0xF0 = cfg.init.f &&& 0xF0 ∧ s.ram = cfg.init.ram ∧ s.pb = cfg.init.pb
end

