-- ==== Sys2Proof/Laws/Memory.lean ====
section
/-! SUPPORT. Laws/Memory.lean: the laws of sparse storage: read after write, the canonical form is kept, and two
canonical stores that read alike are equal. -/

namespace Sys2Proof

section Generic

variable {α : Type} [DecidableEq α] (d : α)

theorem Sparse.get_of_wfFrom_lt {m : Sparse α} {lo a : Nat} (h : Sparse.wfFrom d lo m = true) (ha : a < lo) :
    Sparse.get d m a = d := by
  induction m generalizing lo with
  | nil => rfl
  | cons p m ih =>
    obtain ⟨k, x⟩ := p
    simp only [Sparse.wfFrom, Bool.and_eq_true, decide_eq_true_eq] at h
    obtain ⟨⟨h1, -⟩, h3⟩ := h
    rw [Sparse.get, if_neg (by omega)]
    exact ih h3 (by omega)

theorem Sparse.wfFrom_mono {m : Sparse α} {lo lo' : Nat} (h : Sparse.wfFrom d lo m = true) (hl : lo' ≤ lo) :
    Sparse.wfFrom d lo' m = true := by
  cases m with
  | nil => rfl
  | cons p m =>
    obtain ⟨k, x⟩ := p
    simp only [Sparse.wfFrom, Bool.and_eq_true, decide_eq_true_eq] at h ⊢
    exact ⟨⟨by omega, h.1.2⟩, h.2⟩

/-- Reading the key just written gives the value written. -/
theorem Sparse.get_set_same {m : Sparse α} {lo : Nat} (h : Sparse.wfFrom d lo m = true) (a : Nat) (v : α) :
    Sparse.get d (Sparse.set d m a v) a = v := by
  induction m generalizing lo with
  | nil => by_cases hv : v = d <;> simp [Sparse.set, Sparse.get, hv]
  | cons p m ih =>
    obtain ⟨k, x⟩ := p
    simp only [Sparse.wfFrom, Bool.and_eq_true, decide_eq_true_eq] at h
    obtain ⟨⟨-, -⟩, h3⟩ := h
    simp only [Sparse.set]
    split
    · rename_i hak
      by_cases hv : v = d
      · rw [if_pos hv, Sparse.get, if_neg (by omega), hv]
        exact Sparse.get_of_wfFrom_lt d h3 (by omega)
      · simp [hv, Sparse.get]
    · split
      · rename_i hak
        by_cases hv : v = d
        · rw [if_pos hv, hv]
          exact Sparse.get_of_wfFrom_lt d h3 (by omega)
        · simp [hv, Sparse.get]
      · rename_i h1 h2
        rw [Sparse.get, if_neg (by omega)]
        exact ih h3

/-- Reading another key gives what it gave. -/
theorem Sparse.get_set_other (m : Sparse α) {a b : Nat} (hab : b ≠ a) (v : α) :
    Sparse.get d (Sparse.set d m a v) b = Sparse.get d m b := by
  induction m with
  | nil => by_cases hv : v = d <;> simp [Sparse.set, Sparse.get, hv, Ne.symm hab]
  | cons p m ih =>
    obtain ⟨k, x⟩ := p
    simp only [Sparse.set]
    split
    · by_cases hv : v = d <;> simp [hv, Sparse.get, Ne.symm hab]
    · split
      · rename_i hak
        by_cases hv : v = d <;> simp [hv, Sparse.get, ← hak, Ne.symm hab]
      · simp only [Sparse.get, ih]

/-- Writing keeps the canonical form. -/
theorem Sparse.wfFrom_set {m : Sparse α} {lo a : Nat} (h : Sparse.wfFrom d lo m = true) (ha : lo ≤ a) (v : α) :
    Sparse.wfFrom d lo (Sparse.set d m a v) = true := by
  induction m generalizing lo with
  | nil => by_cases hv : v = d <;> simp [Sparse.set, Sparse.wfFrom, hv, ha]
  | cons p m ih =>
    obtain ⟨k, x⟩ := p
    have h0 := h
    simp only [Sparse.wfFrom, Bool.and_eq_true, decide_eq_true_eq] at h
    obtain ⟨⟨h1, h2⟩, h3⟩ := h
    simp only [Sparse.set]
    split
    · rename_i hak
      by_cases hv : v = d
      · simpa [hv] using h0
      · simp only [hv, if_false, Sparse.wfFrom, Bool.and_eq_true, decide_eq_true_eq]
        exact ⟨⟨ha, hv⟩, ⟨by omega, h2⟩, h3⟩
    · split
      · rename_i hak
        by_cases hv : v = d
        · simpa [hv] using Sparse.wfFrom_mono d h3 (by omega)
        · simp only [hv, if_false, Sparse.wfFrom, Bool.and_eq_true, decide_eq_true_eq]
          exact ⟨⟨ha, hv⟩, hak ▸ h3⟩
      · simp only [Sparse.wfFrom, Bool.and_eq_true, decide_eq_true_eq]
        exact ⟨⟨h1, h2⟩, ih h3 (by omega)⟩

/-- Two canonical stores that read alike are equal. -/
theorem Sparse.ext_of_get {m m' : Sparse α} {lo : Nat} (h : Sparse.wfFrom d lo m = true)
    (h' : Sparse.wfFrom d lo m' = true) (hg : ∀ a, Sparse.get d m a = Sparse.get d m' a) : m = m' := by
  induction m generalizing lo m' with
  | nil =>
    cases m' with
    | nil => rfl
    | cons p m' =>
      obtain ⟨k, x⟩ := p
      simp only [Sparse.wfFrom, Bool.and_eq_true, decide_eq_true_eq] at h'
      exact absurd (by simpa [Sparse.get] using hg k) (Ne.symm h'.1.2)
  | cons p m ih =>
    obtain ⟨k, x⟩ := p
    simp only [Sparse.wfFrom, Bool.and_eq_true, decide_eq_true_eq] at h
    obtain ⟨⟨h1, h2⟩, h3⟩ := h
    cases m' with
    | nil => exact absurd (by simpa [Sparse.get] using hg k) h2
    | cons q m' =>
      obtain ⟨k', x'⟩ := q
      simp only [Sparse.wfFrom, Bool.and_eq_true, decide_eq_true_eq] at h'
      obtain ⟨⟨h1', h2'⟩, h3'⟩ := h'
      have hk : k = k' := by
        rcases Nat.lt_trichotomy k k' with hlt | heq | hgt
        · have := hg k
          rw [Sparse.get, if_pos rfl, Sparse.get, if_neg (by omega), Sparse.get_of_wfFrom_lt d h3' (by omega)] at this
          exact absurd this h2
        · exact heq
        · have := hg k'
          rw [Sparse.get, if_neg (by omega), Sparse.get_of_wfFrom_lt d h3 (by omega), Sparse.get, if_pos rfl] at this
          exact absurd this.symm h2'
      subst hk
      have hx : x = x' := by simpa [Sparse.get] using hg k
      subst hx
      congr 1
      refine ih h3 h3' fun a => ?_
      by_cases hak : k = a
      · subst hak
        rw [Sparse.get_of_wfFrom_lt d h3 (by omega), Sparse.get_of_wfFrom_lt d h3' (by omega)]
      · simpa [Sparse.get, hak] using hg a

end Generic

theorem Memory.read_write_same {m : Memory} (h : m.wf = true) (a : Nat) (v : Byte) : (m.write a v).read a = v :=
  Sparse.get_set_same _ h a v

@[simp] theorem Memory.read_write_other (m : Memory) {a b : Nat} (hab : b ≠ a) (v : Byte) :
    (m.write a v).read b = m.read b :=
  Sparse.get_set_other _ m hab v

theorem Memory.wf_write {m : Memory} (h : m.wf = true) (a : Nat) (v : Byte) : (m.write a v).wf = true :=
  Sparse.wfFrom_set _ h (Nat.zero_le a) v

@[simp] theorem Memory.read_nil (a : Nat) : Memory.read [] a = unlistedByte := rfl

theorem Memory.wf_nil : Memory.wf [] = true := rfl

theorem PixelBuffer.row_setRow_same {p : PixelBuffer} (h : p.wf = true) (n : Nat) (r : List Rgb) :
    (p.setRow n r).row n = r := by
  simp only [PixelBuffer.wf, Bool.and_eq_true] at h
  exact Sparse.get_set_same _ h.1 n r

@[simp] theorem PixelBuffer.row_setRow_other (p : PixelBuffer) {n k : Nat} (hk : k ≠ n) (r : List Rgb) :
    (p.setRow n r).row k = p.row k :=
  Sparse.get_set_other _ p hk r

/-- Every entry of a store after a write is an old entry or the new one. -/
theorem Sparse.mem_set {α : Type} [DecidableEq α] (d : α) {m : Sparse α} {a : Nat} {v : α} {q : Nat × α}
    (h : q ∈ Sparse.set d m a v) : q ∈ m ∨ q = (a, v) := by
  induction m with
  | nil =>
    by_cases hv : v = d
    · simp [Sparse.set, hv] at h
    · simpa [Sparse.set, hv] using h
  | cons p m ih =>
    obtain ⟨k, x⟩ := p
    simp only [Sparse.set] at h
    split at h
    · by_cases hv : v = d <;> simp [hv] at h <;> simp <;> tauto
    · split at h
      · by_cases hv : v = d <;> simp [hv] at h <;> simp <;> tauto
      · rcases List.mem_cons.mp h with h | h
        · exact .inl (h ▸ List.mem_cons_self)
        · exact (ih h).imp (List.mem_cons_of_mem _) id

theorem PixelBuffer.wf_setRow {p : PixelBuffer} (h : p.wf = true) {n : Nat} (hn : n < Config.visibleLines)
    {r : List Rgb} (hr : r.length = Config.columns) : (p.setRow n r).wf = true := by
  simp only [PixelBuffer.wf, Bool.and_eq_true, List.all_eq_true, decide_eq_true_eq] at h ⊢
  refine ⟨Sparse.wfFrom_set _ h.1 (Nat.zero_le n) r, fun q hq => ?_⟩
  rcases Sparse.mem_set _ hq with hq | hq
  · exact h.2 q hq
  · subst hq; exact ⟨hn, hr⟩

end Sys2Proof
end

