-- ==== Sys2Proof/Laws/State.lean ====
section
/-! SUPPORT. Laws/State.lean: one lemma per field per update, and the laws of the register views. -/

namespace Sys2Proof.Machine

variable (s : State)

/-! ## Single registers -/

@[simp] theorem State.setReg_cfg (r : Reg) (v : Byte) : (s.setReg r v).cfg = s.cfg := rfl
@[simp] theorem State.setReg_ifReg (r : Reg) (v : Byte) : (s.setReg r v).ifReg = s.ifReg := rfl
@[simp] theorem State.setReg_ieReg (r : Reg) (v : Byte) : (s.setReg r v).ieReg = s.ieReg := rfl
@[simp] theorem State.setReg_ppu (r : Reg) (v : Byte) : (s.setReg r v).ppu = s.ppu := rfl
@[simp] theorem State.setReg_pb (r : Reg) (v : Byte) : (s.setReg r v).pb = s.pb := rfl
@[simp] theorem State.setReg_bootMapped (r : Reg) (v : Byte) : (s.setReg r v).bootMapped = s.bootMapped := rfl
@[simp] theorem State.setReg_unmapReg (r : Reg) (v : Byte) : (s.setReg r v).unmapReg = s.unmapReg := rfl
@[simp] theorem State.setReg_romBank (r : Reg) (v : Byte) : (s.setReg r v).romBank = s.romBank := rfl
@[simp] theorem State.setReg_ram (r : Reg) (v : Byte) : (s.setReg r v).ram = s.ram := rfl
@[simp] theorem State.setReg_joypSel (r : Reg) (v : Byte) : (s.setReg r v).joypSel = s.joypSel := rfl
@[simp] theorem State.setReg_buttons (r : Reg) (v : Byte) : (s.setReg r v).buttons = s.buttons := rfl
@[simp] theorem State.setReg_cycles (r : Reg) (v : Byte) : (s.setReg r v).cycles = s.cycles := rfl
@[simp] theorem State.setReg_timerEpoch (r : Reg) (v : Byte) : (s.setReg r v).timerEpoch = s.timerEpoch := rfl
@[simp] theorem State.setReg_agent (r : Reg) (v : Byte) : (s.setReg r v).agent = s.agent := rfl
@[simp] theorem State.setReg_cpu_flags (r : Reg) (v : Byte) : (s.setReg r v).cpu.flags = s.cpu.flags := by cases r <;> rfl
@[simp] theorem State.setReg_cpu_sp (r : Reg) (v : Byte) : (s.setReg r v).cpu.sp = s.cpu.sp := by cases r <;> rfl
@[simp] theorem State.setReg_cpu_pc (r : Reg) (v : Byte) : (s.setReg r v).cpu.pc = s.cpu.pc := by cases r <;> rfl
@[simp] theorem State.setReg_cpu_ime (r : Reg) (v : Byte) : (s.setReg r v).cpu.ime = s.cpu.ime := by cases r <;> rfl
@[simp] theorem State.setReg_cpu_halted (r : Reg) (v : Byte) : (s.setReg r v).cpu.halted = s.cpu.halted := by cases r <;> rfl
@[simp] theorem State.reg_setReg_same (r : Reg) (v : Byte) : (s.setReg r v).reg r = v := by cases r <;> rfl
@[simp] theorem State.reg_setReg_other {r q : Reg} (h : q ≠ r) (v : Byte) : (s.setReg r v).reg q = s.reg q := by
  cases r <;> cases q <;> first | rfl | exact absurd rfl h

/-! ## `setFlags` -/

@[simp] theorem State.setFlags_cfg (f : Flags) : (s.setFlags f).cfg = s.cfg := rfl
@[simp] theorem State.setFlags_ifReg (f : Flags) : (s.setFlags f).ifReg = s.ifReg := rfl
@[simp] theorem State.setFlags_ieReg (f : Flags) : (s.setFlags f).ieReg = s.ieReg := rfl
@[simp] theorem State.setFlags_ppu (f : Flags) : (s.setFlags f).ppu = s.ppu := rfl
@[simp] theorem State.setFlags_pb (f : Flags) : (s.setFlags f).pb = s.pb := rfl
@[simp] theorem State.setFlags_bootMapped (f : Flags) : (s.setFlags f).bootMapped = s.bootMapped := rfl
@[simp] theorem State.setFlags_unmapReg (f : Flags) : (s.setFlags f).unmapReg = s.unmapReg := rfl
@[simp] theorem State.setFlags_romBank (f : Flags) : (s.setFlags f).romBank = s.romBank := rfl
@[simp] theorem State.setFlags_ram (f : Flags) : (s.setFlags f).ram = s.ram := rfl
@[simp] theorem State.setFlags_joypSel (f : Flags) : (s.setFlags f).joypSel = s.joypSel := rfl
@[simp] theorem State.setFlags_buttons (f : Flags) : (s.setFlags f).buttons = s.buttons := rfl
@[simp] theorem State.setFlags_cycles (f : Flags) : (s.setFlags f).cycles = s.cycles := rfl
@[simp] theorem State.setFlags_timerEpoch (f : Flags) : (s.setFlags f).timerEpoch = s.timerEpoch := rfl
@[simp] theorem State.setFlags_agent (f : Flags) : (s.setFlags f).agent = s.agent := rfl
@[simp] theorem State.setFlags_cpu_a (f : Flags) : (s.setFlags f).cpu.a = s.cpu.a := rfl
@[simp] theorem State.setFlags_cpu_b (f : Flags) : (s.setFlags f).cpu.b = s.cpu.b := rfl
@[simp] theorem State.setFlags_cpu_c (f : Flags) : (s.setFlags f).cpu.c = s.cpu.c := rfl
@[simp] theorem State.setFlags_cpu_d (f : Flags) : (s.setFlags f).cpu.d = s.cpu.d := rfl
@[simp] theorem State.setFlags_cpu_e (f : Flags) : (s.setFlags f).cpu.e = s.cpu.e := rfl
@[simp] theorem State.setFlags_cpu_h (f : Flags) : (s.setFlags f).cpu.h = s.cpu.h := rfl
@[simp] theorem State.setFlags_cpu_l (f : Flags) : (s.setFlags f).cpu.l = s.cpu.l := rfl
@[simp] theorem State.setFlags_cpu_flags (f : Flags) : (s.setFlags f).cpu.flags = f := rfl
@[simp] theorem State.setFlags_cpu_sp (f : Flags) : (s.setFlags f).cpu.sp = s.cpu.sp := rfl
@[simp] theorem State.setFlags_cpu_pc (f : Flags) : (s.setFlags f).cpu.pc = s.cpu.pc := rfl
@[simp] theorem State.setFlags_cpu_ime (f : Flags) : (s.setFlags f).cpu.ime = s.cpu.ime := rfl
@[simp] theorem State.setFlags_cpu_halted (f : Flags) : (s.setFlags f).cpu.halted = s.cpu.halted := rfl

/-! ## `setSp` -/

@[simp] theorem State.setSp_cfg (w : Word) : (s.setSp w).cfg = s.cfg := rfl
@[simp] theorem State.setSp_ifReg (w : Word) : (s.setSp w).ifReg = s.ifReg := rfl
@[simp] theorem State.setSp_ieReg (w : Word) : (s.setSp w).ieReg = s.ieReg := rfl
@[simp] theorem State.setSp_ppu (w : Word) : (s.setSp w).ppu = s.ppu := rfl
@[simp] theorem State.setSp_pb (w : Word) : (s.setSp w).pb = s.pb := rfl
@[simp] theorem State.setSp_bootMapped (w : Word) : (s.setSp w).bootMapped = s.bootMapped := rfl
@[simp] theorem State.setSp_unmapReg (w : Word) : (s.setSp w).unmapReg = s.unmapReg := rfl
@[simp] theorem State.setSp_romBank (w : Word) : (s.setSp w).romBank = s.romBank := rfl
@[simp] theorem State.setSp_ram (w : Word) : (s.setSp w).ram = s.ram := rfl
@[simp] theorem State.setSp_joypSel (w : Word) : (s.setSp w).joypSel = s.joypSel := rfl
@[simp] theorem State.setSp_buttons (w : Word) : (s.setSp w).buttons = s.buttons := rfl
@[simp] theorem State.setSp_cycles (w : Word) : (s.setSp w).cycles = s.cycles := rfl
@[simp] theorem State.setSp_timerEpoch (w : Word) : (s.setSp w).timerEpoch = s.timerEpoch := rfl
@[simp] theorem State.setSp_agent (w : Word) : (s.setSp w).agent = s.agent := rfl
@[simp] theorem State.setSp_cpu_a (w : Word) : (s.setSp w).cpu.a = s.cpu.a := rfl
@[simp] theorem State.setSp_cpu_b (w : Word) : (s.setSp w).cpu.b = s.cpu.b := rfl
@[simp] theorem State.setSp_cpu_c (w : Word) : (s.setSp w).cpu.c = s.cpu.c := rfl
@[simp] theorem State.setSp_cpu_d (w : Word) : (s.setSp w).cpu.d = s.cpu.d := rfl
@[simp] theorem State.setSp_cpu_e (w : Word) : (s.setSp w).cpu.e = s.cpu.e := rfl
@[simp] theorem State.setSp_cpu_h (w : Word) : (s.setSp w).cpu.h = s.cpu.h := rfl
@[simp] theorem State.setSp_cpu_l (w : Word) : (s.setSp w).cpu.l = s.cpu.l := rfl
@[simp] theorem State.setSp_cpu_flags (w : Word) : (s.setSp w).cpu.flags = s.cpu.flags := rfl
@[simp] theorem State.setSp_cpu_sp (w : Word) : (s.setSp w).cpu.sp = w := rfl
@[simp] theorem State.setSp_cpu_pc (w : Word) : (s.setSp w).cpu.pc = s.cpu.pc := rfl
@[simp] theorem State.setSp_cpu_ime (w : Word) : (s.setSp w).cpu.ime = s.cpu.ime := rfl
@[simp] theorem State.setSp_cpu_halted (w : Word) : (s.setSp w).cpu.halted = s.cpu.halted := rfl

/-! ## `setPc` -/

@[simp] theorem State.setPc_cfg (w : Word) : (s.setPc w).cfg = s.cfg := rfl
@[simp] theorem State.setPc_ifReg (w : Word) : (s.setPc w).ifReg = s.ifReg := rfl
@[simp] theorem State.setPc_ieReg (w : Word) : (s.setPc w).ieReg = s.ieReg := rfl
@[simp] theorem State.setPc_ppu (w : Word) : (s.setPc w).ppu = s.ppu := rfl
@[simp] theorem State.setPc_pb (w : Word) : (s.setPc w).pb = s.pb := rfl
@[simp] theorem State.setPc_bootMapped (w : Word) : (s.setPc w).bootMapped = s.bootMapped := rfl
@[simp] theorem State.setPc_unmapReg (w : Word) : (s.setPc w).unmapReg = s.unmapReg := rfl
@[simp] theorem State.setPc_romBank (w : Word) : (s.setPc w).romBank = s.romBank := rfl
@[simp] theorem State.setPc_ram (w : Word) : (s.setPc w).ram = s.ram := rfl
@[simp] theorem State.setPc_joypSel (w : Word) : (s.setPc w).joypSel = s.joypSel := rfl
@[simp] theorem State.setPc_buttons (w : Word) : (s.setPc w).buttons = s.buttons := rfl
@[simp] theorem State.setPc_cycles (w : Word) : (s.setPc w).cycles = s.cycles := rfl
@[simp] theorem State.setPc_timerEpoch (w : Word) : (s.setPc w).timerEpoch = s.timerEpoch := rfl
@[simp] theorem State.setPc_agent (w : Word) : (s.setPc w).agent = s.agent := rfl
@[simp] theorem State.setPc_cpu_a (w : Word) : (s.setPc w).cpu.a = s.cpu.a := rfl
@[simp] theorem State.setPc_cpu_b (w : Word) : (s.setPc w).cpu.b = s.cpu.b := rfl
@[simp] theorem State.setPc_cpu_c (w : Word) : (s.setPc w).cpu.c = s.cpu.c := rfl
@[simp] theorem State.setPc_cpu_d (w : Word) : (s.setPc w).cpu.d = s.cpu.d := rfl
@[simp] theorem State.setPc_cpu_e (w : Word) : (s.setPc w).cpu.e = s.cpu.e := rfl
@[simp] theorem State.setPc_cpu_h (w : Word) : (s.setPc w).cpu.h = s.cpu.h := rfl
@[simp] theorem State.setPc_cpu_l (w : Word) : (s.setPc w).cpu.l = s.cpu.l := rfl
@[simp] theorem State.setPc_cpu_flags (w : Word) : (s.setPc w).cpu.flags = s.cpu.flags := rfl
@[simp] theorem State.setPc_cpu_sp (w : Word) : (s.setPc w).cpu.sp = s.cpu.sp := rfl
@[simp] theorem State.setPc_cpu_pc (w : Word) : (s.setPc w).cpu.pc = w := rfl
@[simp] theorem State.setPc_cpu_ime (w : Word) : (s.setPc w).cpu.ime = s.cpu.ime := rfl
@[simp] theorem State.setPc_cpu_halted (w : Word) : (s.setPc w).cpu.halted = s.cpu.halted := rfl

/-! ## `setIme` -/

@[simp] theorem State.setIme_cfg (v : Bool) : (s.setIme v).cfg = s.cfg := rfl
@[simp] theorem State.setIme_ifReg (v : Bool) : (s.setIme v).ifReg = s.ifReg := rfl
@[simp] theorem State.setIme_ieReg (v : Bool) : (s.setIme v).ieReg = s.ieReg := rfl
@[simp] theorem State.setIme_ppu (v : Bool) : (s.setIme v).ppu = s.ppu := rfl
@[simp] theorem State.setIme_pb (v : Bool) : (s.setIme v).pb = s.pb := rfl
@[simp] theorem State.setIme_bootMapped (v : Bool) : (s.setIme v).bootMapped = s.bootMapped := rfl
@[simp] theorem State.setIme_unmapReg (v : Bool) : (s.setIme v).unmapReg = s.unmapReg := rfl
@[simp] theorem State.setIme_romBank (v : Bool) : (s.setIme v).romBank = s.romBank := rfl
@[simp] theorem State.setIme_ram (v : Bool) : (s.setIme v).ram = s.ram := rfl
@[simp] theorem State.setIme_joypSel (v : Bool) : (s.setIme v).joypSel = s.joypSel := rfl
@[simp] theorem State.setIme_buttons (v : Bool) : (s.setIme v).buttons = s.buttons := rfl
@[simp] theorem State.setIme_cycles (v : Bool) : (s.setIme v).cycles = s.cycles := rfl
@[simp] theorem State.setIme_timerEpoch (v : Bool) : (s.setIme v).timerEpoch = s.timerEpoch := rfl
@[simp] theorem State.setIme_agent (v : Bool) : (s.setIme v).agent = s.agent := rfl
@[simp] theorem State.setIme_cpu_a (v : Bool) : (s.setIme v).cpu.a = s.cpu.a := rfl
@[simp] theorem State.setIme_cpu_b (v : Bool) : (s.setIme v).cpu.b = s.cpu.b := rfl
@[simp] theorem State.setIme_cpu_c (v : Bool) : (s.setIme v).cpu.c = s.cpu.c := rfl
@[simp] theorem State.setIme_cpu_d (v : Bool) : (s.setIme v).cpu.d = s.cpu.d := rfl
@[simp] theorem State.setIme_cpu_e (v : Bool) : (s.setIme v).cpu.e = s.cpu.e := rfl
@[simp] theorem State.setIme_cpu_h (v : Bool) : (s.setIme v).cpu.h = s.cpu.h := rfl
@[simp] theorem State.setIme_cpu_l (v : Bool) : (s.setIme v).cpu.l = s.cpu.l := rfl
@[simp] theorem State.setIme_cpu_flags (v : Bool) : (s.setIme v).cpu.flags = s.cpu.flags := rfl
@[simp] theorem State.setIme_cpu_sp (v : Bool) : (s.setIme v).cpu.sp = s.cpu.sp := rfl
@[simp] theorem State.setIme_cpu_pc (v : Bool) : (s.setIme v).cpu.pc = s.cpu.pc := rfl
@[simp] theorem State.setIme_cpu_ime (v : Bool) : (s.setIme v).cpu.ime = v := rfl
@[simp] theorem State.setIme_cpu_halted (v : Bool) : (s.setIme v).cpu.halted = s.cpu.halted := rfl

/-! ## `setHalted` -/

@[simp] theorem State.setHalted_cfg (v : Bool) : (s.setHalted v).cfg = s.cfg := rfl
@[simp] theorem State.setHalted_ifReg (v : Bool) : (s.setHalted v).ifReg = s.ifReg := rfl
@[simp] theorem State.setHalted_ieReg (v : Bool) : (s.setHalted v).ieReg = s.ieReg := rfl
@[simp] theorem State.setHalted_ppu (v : Bool) : (s.setHalted v).ppu = s.ppu := rfl
@[simp] theorem State.setHalted_pb (v : Bool) : (s.setHalted v).pb = s.pb := rfl
@[simp] theorem State.setHalted_bootMapped (v : Bool) : (s.setHalted v).bootMapped = s.bootMapped := rfl
@[simp] theorem State.setHalted_unmapReg (v : Bool) : (s.setHalted v).unmapReg = s.unmapReg := rfl
@[simp] theorem State.setHalted_romBank (v : Bool) : (s.setHalted v).romBank = s.romBank := rfl
@[simp] theorem State.setHalted_ram (v : Bool) : (s.setHalted v).ram = s.ram := rfl
@[simp] theorem State.setHalted_joypSel (v : Bool) : (s.setHalted v).joypSel = s.joypSel := rfl
@[simp] theorem State.setHalted_buttons (v : Bool) : (s.setHalted v).buttons = s.buttons := rfl
@[simp] theorem State.setHalted_cycles (v : Bool) : (s.setHalted v).cycles = s.cycles := rfl
@[simp] theorem State.setHalted_timerEpoch (v : Bool) : (s.setHalted v).timerEpoch = s.timerEpoch := rfl
@[simp] theorem State.setHalted_agent (v : Bool) : (s.setHalted v).agent = s.agent := rfl
@[simp] theorem State.setHalted_cpu_a (v : Bool) : (s.setHalted v).cpu.a = s.cpu.a := rfl
@[simp] theorem State.setHalted_cpu_b (v : Bool) : (s.setHalted v).cpu.b = s.cpu.b := rfl
@[simp] theorem State.setHalted_cpu_c (v : Bool) : (s.setHalted v).cpu.c = s.cpu.c := rfl
@[simp] theorem State.setHalted_cpu_d (v : Bool) : (s.setHalted v).cpu.d = s.cpu.d := rfl
@[simp] theorem State.setHalted_cpu_e (v : Bool) : (s.setHalted v).cpu.e = s.cpu.e := rfl
@[simp] theorem State.setHalted_cpu_h (v : Bool) : (s.setHalted v).cpu.h = s.cpu.h := rfl
@[simp] theorem State.setHalted_cpu_l (v : Bool) : (s.setHalted v).cpu.l = s.cpu.l := rfl
@[simp] theorem State.setHalted_cpu_flags (v : Bool) : (s.setHalted v).cpu.flags = s.cpu.flags := rfl
@[simp] theorem State.setHalted_cpu_sp (v : Bool) : (s.setHalted v).cpu.sp = s.cpu.sp := rfl
@[simp] theorem State.setHalted_cpu_pc (v : Bool) : (s.setHalted v).cpu.pc = s.cpu.pc := rfl
@[simp] theorem State.setHalted_cpu_ime (v : Bool) : (s.setHalted v).cpu.ime = s.cpu.ime := rfl
@[simp] theorem State.setHalted_cpu_halted (v : Bool) : (s.setHalted v).cpu.halted = v := rfl

/-! ## `setBc` -/

@[simp] theorem State.setBc_cfg (w : Word) : (s.setBc w).cfg = s.cfg := rfl
@[simp] theorem State.setBc_ifReg (w : Word) : (s.setBc w).ifReg = s.ifReg := rfl
@[simp] theorem State.setBc_ieReg (w : Word) : (s.setBc w).ieReg = s.ieReg := rfl
@[simp] theorem State.setBc_ppu (w : Word) : (s.setBc w).ppu = s.ppu := rfl
@[simp] theorem State.setBc_pb (w : Word) : (s.setBc w).pb = s.pb := rfl
@[simp] theorem State.setBc_bootMapped (w : Word) : (s.setBc w).bootMapped = s.bootMapped := rfl
@[simp] theorem State.setBc_unmapReg (w : Word) : (s.setBc w).unmapReg = s.unmapReg := rfl
@[simp] theorem State.setBc_romBank (w : Word) : (s.setBc w).romBank = s.romBank := rfl
@[simp] theorem State.setBc_ram (w : Word) : (s.setBc w).ram = s.ram := rfl
@[simp] theorem State.setBc_joypSel (w : Word) : (s.setBc w).joypSel = s.joypSel := rfl
@[simp] theorem State.setBc_buttons (w : Word) : (s.setBc w).buttons = s.buttons := rfl
@[simp] theorem State.setBc_cycles (w : Word) : (s.setBc w).cycles = s.cycles := rfl
@[simp] theorem State.setBc_timerEpoch (w : Word) : (s.setBc w).timerEpoch = s.timerEpoch := rfl
@[simp] theorem State.setBc_agent (w : Word) : (s.setBc w).agent = s.agent := rfl
@[simp] theorem State.setBc_cpu_a (w : Word) : (s.setBc w).cpu.a = s.cpu.a := rfl
@[simp] theorem State.setBc_cpu_b (w : Word) : (s.setBc w).cpu.b = hiByte w := rfl
@[simp] theorem State.setBc_cpu_c (w : Word) : (s.setBc w).cpu.c = loByte w := rfl
@[simp] theorem State.setBc_cpu_d (w : Word) : (s.setBc w).cpu.d = s.cpu.d := rfl
@[simp] theorem State.setBc_cpu_e (w : Word) : (s.setBc w).cpu.e = s.cpu.e := rfl
@[simp] theorem State.setBc_cpu_h (w : Word) : (s.setBc w).cpu.h = s.cpu.h := rfl
@[simp] theorem State.setBc_cpu_l (w : Word) : (s.setBc w).cpu.l = s.cpu.l := rfl
@[simp] theorem State.setBc_cpu_flags (w : Word) : (s.setBc w).cpu.flags = s.cpu.flags := rfl
@[simp] theorem State.setBc_cpu_sp (w : Word) : (s.setBc w).cpu.sp = s.cpu.sp := rfl
@[simp] theorem State.setBc_cpu_pc (w : Word) : (s.setBc w).cpu.pc = s.cpu.pc := rfl
@[simp] theorem State.setBc_cpu_ime (w : Word) : (s.setBc w).cpu.ime = s.cpu.ime := rfl
@[simp] theorem State.setBc_cpu_halted (w : Word) : (s.setBc w).cpu.halted = s.cpu.halted := rfl

/-! ## `setDe` -/

@[simp] theorem State.setDe_cfg (w : Word) : (s.setDe w).cfg = s.cfg := rfl
@[simp] theorem State.setDe_ifReg (w : Word) : (s.setDe w).ifReg = s.ifReg := rfl
@[simp] theorem State.setDe_ieReg (w : Word) : (s.setDe w).ieReg = s.ieReg := rfl
@[simp] theorem State.setDe_ppu (w : Word) : (s.setDe w).ppu = s.ppu := rfl
@[simp] theorem State.setDe_pb (w : Word) : (s.setDe w).pb = s.pb := rfl
@[simp] theorem State.setDe_bootMapped (w : Word) : (s.setDe w).bootMapped = s.bootMapped := rfl
@[simp] theorem State.setDe_unmapReg (w : Word) : (s.setDe w).unmapReg = s.unmapReg := rfl
@[simp] theorem State.setDe_romBank (w : Word) : (s.setDe w).romBank = s.romBank := rfl
@[simp] theorem State.setDe_ram (w : Word) : (s.setDe w).ram = s.ram := rfl
@[simp] theorem State.setDe_joypSel (w : Word) : (s.setDe w).joypSel = s.joypSel := rfl
@[simp] theorem State.setDe_buttons (w : Word) : (s.setDe w).buttons = s.buttons := rfl
@[simp] theorem State.setDe_cycles (w : Word) : (s.setDe w).cycles = s.cycles := rfl
@[simp] theorem State.setDe_timerEpoch (w : Word) : (s.setDe w).timerEpoch = s.timerEpoch := rfl
@[simp] theorem State.setDe_agent (w : Word) : (s.setDe w).agent = s.agent := rfl
@[simp] theorem State.setDe_cpu_a (w : Word) : (s.setDe w).cpu.a = s.cpu.a := rfl
@[simp] theorem State.setDe_cpu_b (w : Word) : (s.setDe w).cpu.b = s.cpu.b := rfl
@[simp] theorem State.setDe_cpu_c (w : Word) : (s.setDe w).cpu.c = s.cpu.c := rfl
@[simp] theorem State.setDe_cpu_d (w : Word) : (s.setDe w).cpu.d = hiByte w := rfl
@[simp] theorem State.setDe_cpu_e (w : Word) : (s.setDe w).cpu.e = loByte w := rfl
@[simp] theorem State.setDe_cpu_h (w : Word) : (s.setDe w).cpu.h = s.cpu.h := rfl
@[simp] theorem State.setDe_cpu_l (w : Word) : (s.setDe w).cpu.l = s.cpu.l := rfl
@[simp] theorem State.setDe_cpu_flags (w : Word) : (s.setDe w).cpu.flags = s.cpu.flags := rfl
@[simp] theorem State.setDe_cpu_sp (w : Word) : (s.setDe w).cpu.sp = s.cpu.sp := rfl
@[simp] theorem State.setDe_cpu_pc (w : Word) : (s.setDe w).cpu.pc = s.cpu.pc := rfl
@[simp] theorem State.setDe_cpu_ime (w : Word) : (s.setDe w).cpu.ime = s.cpu.ime := rfl
@[simp] theorem State.setDe_cpu_halted (w : Word) : (s.setDe w).cpu.halted = s.cpu.halted := rfl

/-! ## `setHl` -/

@[simp] theorem State.setHl_cfg (w : Word) : (s.setHl w).cfg = s.cfg := rfl
@[simp] theorem State.setHl_ifReg (w : Word) : (s.setHl w).ifReg = s.ifReg := rfl
@[simp] theorem State.setHl_ieReg (w : Word) : (s.setHl w).ieReg = s.ieReg := rfl
@[simp] theorem State.setHl_ppu (w : Word) : (s.setHl w).ppu = s.ppu := rfl
@[simp] theorem State.setHl_pb (w : Word) : (s.setHl w).pb = s.pb := rfl
@[simp] theorem State.setHl_bootMapped (w : Word) : (s.setHl w).bootMapped = s.bootMapped := rfl
@[simp] theorem State.setHl_unmapReg (w : Word) : (s.setHl w).unmapReg = s.unmapReg := rfl
@[simp] theorem State.setHl_romBank (w : Word) : (s.setHl w).romBank = s.romBank := rfl
@[simp] theorem State.setHl_ram (w : Word) : (s.setHl w).ram = s.ram := rfl
@[simp] theorem State.setHl_joypSel (w : Word) : (s.setHl w).joypSel = s.joypSel := rfl
@[simp] theorem State.setHl_buttons (w : Word) : (s.setHl w).buttons = s.buttons := rfl
@[simp] theorem State.setHl_cycles (w : Word) : (s.setHl w).cycles = s.cycles := rfl
@[simp] theorem State.setHl_timerEpoch (w : Word) : (s.setHl w).timerEpoch = s.timerEpoch := rfl
@[simp] theorem State.setHl_agent (w : Word) : (s.setHl w).agent = s.agent := rfl
@[simp] theorem State.setHl_cpu_a (w : Word) : (s.setHl w).cpu.a = s.cpu.a := rfl
@[simp] theorem State.setHl_cpu_b (w : Word) : (s.setHl w).cpu.b = s.cpu.b := rfl
@[simp] theorem State.setHl_cpu_c (w : Word) : (s.setHl w).cpu.c = s.cpu.c := rfl
@[simp] theorem State.setHl_cpu_d (w : Word) : (s.setHl w).cpu.d = s.cpu.d := rfl
@[simp] theorem State.setHl_cpu_e (w : Word) : (s.setHl w).cpu.e = s.cpu.e := rfl
@[simp] theorem State.setHl_cpu_h (w : Word) : (s.setHl w).cpu.h = hiByte w := rfl
@[simp] theorem State.setHl_cpu_l (w : Word) : (s.setHl w).cpu.l = loByte w := rfl
@[simp] theorem State.setHl_cpu_flags (w : Word) : (s.setHl w).cpu.flags = s.cpu.flags := rfl
@[simp] theorem State.setHl_cpu_sp (w : Word) : (s.setHl w).cpu.sp = s.cpu.sp := rfl
@[simp] theorem State.setHl_cpu_pc (w : Word) : (s.setHl w).cpu.pc = s.cpu.pc := rfl
@[simp] theorem State.setHl_cpu_ime (w : Word) : (s.setHl w).cpu.ime = s.cpu.ime := rfl
@[simp] theorem State.setHl_cpu_halted (w : Word) : (s.setHl w).cpu.halted = s.cpu.halted := rfl

/-! ## `setAf` -/

@[simp] theorem State.setAf_cfg (w : Word) : (s.setAf w).cfg = s.cfg := rfl
@[simp] theorem State.setAf_ifReg (w : Word) : (s.setAf w).ifReg = s.ifReg := rfl
@[simp] theorem State.setAf_ieReg (w : Word) : (s.setAf w).ieReg = s.ieReg := rfl
@[simp] theorem State.setAf_ppu (w : Word) : (s.setAf w).ppu = s.ppu := rfl
@[simp] theorem State.setAf_pb (w : Word) : (s.setAf w).pb = s.pb := rfl
@[simp] theorem State.setAf_bootMapped (w : Word) : (s.setAf w).bootMapped = s.bootMapped := rfl
@[simp] theorem State.setAf_unmapReg (w : Word) : (s.setAf w).unmapReg = s.unmapReg := rfl
@[simp] theorem State.setAf_romBank (w : Word) : (s.setAf w).romBank = s.romBank := rfl
@[simp] theorem State.setAf_ram (w : Word) : (s.setAf w).ram = s.ram := rfl
@[simp] theorem State.setAf_joypSel (w : Word) : (s.setAf w).joypSel = s.joypSel := rfl
@[simp] theorem State.setAf_buttons (w : Word) : (s.setAf w).buttons = s.buttons := rfl
@[simp] theorem State.setAf_cycles (w : Word) : (s.setAf w).cycles = s.cycles := rfl
@[simp] theorem State.setAf_timerEpoch (w : Word) : (s.setAf w).timerEpoch = s.timerEpoch := rfl
@[simp] theorem State.setAf_agent (w : Word) : (s.setAf w).agent = s.agent := rfl
@[simp] theorem State.setAf_cpu_a (w : Word) : (s.setAf w).cpu.a = hiByte w := rfl
@[simp] theorem State.setAf_cpu_b (w : Word) : (s.setAf w).cpu.b = s.cpu.b := rfl
@[simp] theorem State.setAf_cpu_c (w : Word) : (s.setAf w).cpu.c = s.cpu.c := rfl
@[simp] theorem State.setAf_cpu_d (w : Word) : (s.setAf w).cpu.d = s.cpu.d := rfl
@[simp] theorem State.setAf_cpu_e (w : Word) : (s.setAf w).cpu.e = s.cpu.e := rfl
@[simp] theorem State.setAf_cpu_h (w : Word) : (s.setAf w).cpu.h = s.cpu.h := rfl
@[simp] theorem State.setAf_cpu_l (w : Word) : (s.setAf w).cpu.l = s.cpu.l := rfl
@[simp] theorem State.setAf_cpu_flags (w : Word) : (s.setAf w).cpu.flags = Flags.ofByte (loByte w) := rfl
@[simp] theorem State.setAf_cpu_sp (w : Word) : (s.setAf w).cpu.sp = s.cpu.sp := rfl
@[simp] theorem State.setAf_cpu_pc (w : Word) : (s.setAf w).cpu.pc = s.cpu.pc := rfl
@[simp] theorem State.setAf_cpu_ime (w : Word) : (s.setAf w).cpu.ime = s.cpu.ime := rfl
@[simp] theorem State.setAf_cpu_halted (w : Word) : (s.setAf w).cpu.halted = s.cpu.halted := rfl

/-! ## `setCycles` and `raise` -/

@[simp] theorem State.setCycles_cfg (n : Nat) : (s.setCycles n).cfg = s.cfg := rfl
@[simp] theorem State.setCycles_ifReg (n : Nat) : (s.setCycles n).ifReg = s.ifReg := rfl
@[simp] theorem State.setCycles_ieReg (n : Nat) : (s.setCycles n).ieReg = s.ieReg := rfl
@[simp] theorem State.setCycles_ppu (n : Nat) : (s.setCycles n).ppu = s.ppu := rfl
@[simp] theorem State.setCycles_pb (n : Nat) : (s.setCycles n).pb = s.pb := rfl
@[simp] theorem State.setCycles_bootMapped (n : Nat) : (s.setCycles n).bootMapped = s.bootMapped := rfl
@[simp] theorem State.setCycles_unmapReg (n : Nat) : (s.setCycles n).unmapReg = s.unmapReg := rfl
@[simp] theorem State.setCycles_romBank (n : Nat) : (s.setCycles n).romBank = s.romBank := rfl
@[simp] theorem State.setCycles_ram (n : Nat) : (s.setCycles n).ram = s.ram := rfl
@[simp] theorem State.setCycles_joypSel (n : Nat) : (s.setCycles n).joypSel = s.joypSel := rfl
@[simp] theorem State.setCycles_buttons (n : Nat) : (s.setCycles n).buttons = s.buttons := rfl
@[simp] theorem State.setCycles_cycles (n : Nat) : (s.setCycles n).cycles = n := rfl
@[simp] theorem State.setCycles_timerEpoch (n : Nat) : (s.setCycles n).timerEpoch = s.timerEpoch := rfl
@[simp] theorem State.setCycles_agent (n : Nat) : (s.setCycles n).agent = s.agent := rfl
@[simp] theorem State.setCycles_cpu (n : Nat) : (s.setCycles n).cpu = s.cpu := rfl
@[simp] theorem State.raise_cfg (src : Source) : (s.raise src).cfg = s.cfg := rfl
@[simp] theorem State.raise_ifReg (src : Source) : (s.raise src).ifReg = s.ifReg ||| src.mask := rfl
@[simp] theorem State.raise_ieReg (src : Source) : (s.raise src).ieReg = s.ieReg := rfl
@[simp] theorem State.raise_ppu (src : Source) : (s.raise src).ppu = s.ppu := rfl
@[simp] theorem State.raise_pb (src : Source) : (s.raise src).pb = s.pb := rfl
@[simp] theorem State.raise_bootMapped (src : Source) : (s.raise src).bootMapped = s.bootMapped := rfl
@[simp] theorem State.raise_unmapReg (src : Source) : (s.raise src).unmapReg = s.unmapReg := rfl
@[simp] theorem State.raise_romBank (src : Source) : (s.raise src).romBank = s.romBank := rfl
@[simp] theorem State.raise_ram (src : Source) : (s.raise src).ram = s.ram := rfl
@[simp] theorem State.raise_joypSel (src : Source) : (s.raise src).joypSel = s.joypSel := rfl
@[simp] theorem State.raise_buttons (src : Source) : (s.raise src).buttons = s.buttons := rfl
@[simp] theorem State.raise_cycles (src : Source) : (s.raise src).cycles = s.cycles := rfl
@[simp] theorem State.raise_timerEpoch (src : Source) : (s.raise src).timerEpoch = s.timerEpoch := rfl
@[simp] theorem State.raise_agent (src : Source) : (s.raise src).agent = s.agent := rfl
@[simp] theorem State.raise_cpu (src : Source) : (s.raise src).cpu = s.cpu := rfl

/-! ## Views -/

theorem State.reg_ext {s t : State} (h : ∀ r, t.reg r = s.reg r) :
    t.cpu.a = s.cpu.a ∧ t.cpu.b = s.cpu.b ∧ t.cpu.c = s.cpu.c ∧ t.cpu.d = s.cpu.d ∧ t.cpu.e = s.cpu.e ∧
      t.cpu.h = s.cpu.h ∧ t.cpu.l = s.cpu.l :=
  ⟨h .a, h .b, h .c, h .d, h .e, h .h, h .l⟩

@[simp] theorem State.setBc_bc (w : Word) : (s.setBc w).bc = w := mkWord_hiByte_loByte w
@[simp] theorem State.setDe_de (w : Word) : (s.setDe w).de = w := mkWord_hiByte_loByte w
@[simp] theorem State.setHl_hl (w : Word) : (s.setHl w).hl = w := mkWord_hiByte_loByte w

@[simp] theorem State.rr_setRr_same (r : RR) (w : Word) : (s.setRr r w).rr r = w := by
  cases r
  · exact State.setBc_bc s w
  · exact State.setDe_de s w
  · exact State.setHl_hl s w
  · rfl

@[simp] theorem State.rr_setRr_other {r q : RR} (h : q ≠ r) (w : Word) : (s.setRr r w).rr q = s.rr q := by
  cases r <;> cases q <;> first | rfl | exact absurd rfl h

/-- F read back after a write: the low nibble is discarded. -/
theorem Flags.toByte_ofByte (v : Byte) : (Flags.ofByte v).toByte = v &&& 0xF0 := by
  revert v; decide

@[simp] theorem Flags.ofByte_toByte (f : Flags) : Flags.ofByte f.toByte = f := by
  rcases f with ⟨_ | _, _ | _, _ | _, _ | _⟩ <;> rfl

@[simp] theorem State.setHalted_self (h : s.cpu.halted = v) : s.setHalted v = s := by subst h; rfl

@[simp] theorem State.setCycles_setCycles (m n : Nat) : (s.setCycles m).setCycles n = s.setCycles n := rfl

end Sys2Proof.Machine
end

