-- ==== Sys2Proof/Laws/Bus.lean ====
section
/-! SUPPORT. Laws/Bus.lean: what a bus access can do: when it meets a gap, what it reads when only registers differ, and
everything a write can change. -/

namespace Sys2Proof.Machine

/-! ## Gaps -/

/-- A choice equals a value exactly when the branch taken does. -/
theorem ite_eq_iff_split {α : Type} {p : Prop} [Decidable p] {x y v : α} {q : Prop}
    (h1 : p → (x = v ↔ q)) (h2 : ¬p → (y = v ↔ q)) : (if p then x else y) = v ↔ q := by
  by_cases hp : p
  · rw [if_pos hp]; exact h1 hp
  · rw [if_neg hp]; exact h2 hp

/-- The addresses owned by nothing are the five ranges of rule R54. -/
theorem owner_eq_gap_iff (m : Bool) (a : Word) : Machine.owner m a.toNat = .gap ↔ isGap a = true := by
  simp only [isGap, Bool.or_eq_true, decide_eq_true_eq]
  unfold Machine.owner
  repeat' refine ite_eq_iff_split (fun _ => ?_) (fun _ => ?_)
  all_goals first
    | (simp only [reduceCtorEq, false_iff]; omega)
    | (simp only [true_iff]; omega)

/-- The DMA register is at 0xFF46 (rule R31). -/
theorem owner_eq_dma_iff (m : Bool) (a : Word) : Machine.owner m a.toNat = .dma ↔ a = 0xFF46 := by
  rw [← BitVec.toNat_inj, show (0xFF46 : Word).toNat = 0xFF46 from rfl]
  unfold Machine.owner
  repeat' refine ite_eq_iff_split (fun _ => ?_) (fun _ => ?_)
  all_goals first
    | (simp only [reduceCtorEq, false_iff]; omega)
    | (simp only [true_iff]; omega)

theorem State.owner_eq_gap_iff (s : State) (a : Word) : s.owner a = .gap ↔ isGap a = true :=
  Machine.owner_eq_gap_iff _ a

/-- A read off the gaps gives the stored byte through the unit's read hook. -/
theorem busRead_of_not_gap {s : State} {a : Word} (h : isGap a = false) :
    busRead s a = .ok (s.onRead (s.owner a) a (s.stored (s.owner a) a.toNat)) := by
  have hg : s.owner a ≠ .gap := by rw [Ne, State.owner_eq_gap_iff]; simp [h]
  unfold busRead
  split
  · rename_i h'; exact absurd h' hg
  · rfl

theorem busRead_of_gap {s : State} {a : Word} (h : isGap a = true) : busRead s a = .error (.gap a) := by
  have hg : s.owner a = .gap := (State.owner_eq_gap_iff s a).2 h
  simp only [busRead, hg]

/-- A read succeeds exactly off the gaps. -/
theorem busRead_ok_iff {s : State} {a : Word} : (∃ v, busRead s a = .ok v) ↔ isGap a = false := by
  constructor
  · rintro ⟨v, hv⟩
    by_contra h
    rw [busRead_of_gap (by simpa using h)] at hv
    cases hv
  · intro h; exact ⟨_, busRead_of_not_gap h⟩

/-! ## Owners -/

/-- The addresses each unit owns (rules R53, R31). -/
def Owner.range (o : Owner) (bootMapped : Bool) (n : Nat) : Prop :=
  match o with
  | .bootRom => n < 0x0100 ∧ bootMapped = true
  | .cartRom => n < 0x8000 ∧ (bootMapped = true → 0x0100 ≤ n)
  | .vram => 0x8000 ≤ n ∧ n < 0xA000
  | .cram => 0xA000 ≤ n ∧ n < 0xC000
  | .wram => 0xC000 ≤ n ∧ n < 0xE000
  | .echo => 0xE000 ≤ n ∧ n < 0xFE00
  | .oam => 0xFE00 ≤ n ∧ n < 0xFEA0
  | .gap => isGap (BitVec.ofNat 16 n) = true
  | .joypad => n = 0xFF00
  | .serial => 0xFF01 ≤ n ∧ n < 0xFF03
  | .timer => 0xFF04 ≤ n ∧ n < 0xFF08
  | .ifReg => n = 0xFF0F
  | .sound => 0xFF10 ≤ n ∧ n < 0xFF40
  | .lcdc => n = 0xFF40
  | .stat => n = 0xFF41
  | .scy => n = 0xFF42
  | .scx => n = 0xFF43
  | .ly => n = 0xFF44
  | .lyc => n = 0xFF45
  | .dma => n = 0xFF46
  | .bgp => n = 0xFF47
  | .obp0 => n = 0xFF48
  | .obp1 => n = 0xFF49
  | .wy => n = 0xFF4A
  | .wx => n = 0xFF4B
  | .unmap => n = 0xFF50
  | .hram => 0xFF80 ≤ n ∧ n < 0xFFFF
  | .ieReg => n = 0xFFFF

/-- A choice has a property when each branch has it. -/
theorem ite_intro {α : Type} {p : Prop} [Decidable p] {x y : α} {P : α → Prop} (h1 : p → P x) (h2 : ¬p → P y) :
    P (if p then x else y) := by
  by_cases hp : p
  · rw [if_pos hp]; exact h1 hp
  · rw [if_neg hp]; exact h2 hp

/-- Every address is in the range of its owner. -/
theorem owner_range (m : Bool) (a : Word) : (Machine.owner m a.toNat).range m a.toNat := by
  have hlt := a.isLt
  have hg := owner_eq_gap_iff m a
  by_cases h : Machine.owner m a.toNat = .gap
  · rw [h]; simpa [Owner.range] using hg.1 h
  · have hn : isGap a = false := by simpa [hg] using h
    simp only [isGap, Bool.or_eq_false_iff, decide_eq_false_iff_not] at hn
    clear h hg
    unfold Machine.owner highOwner ppuRegister
    repeat' refine ite_intro (P := fun o => Owner.range o m a.toNat) (fun _ => ?_) (fun _ => ?_)
    all_goals simp only [Owner.range]
    all_goals first | omega | skip
    all_goals (cases m <;> simp_all <;> omega)

theorem State.owner_range (s : State) (a : Word) : (s.owner a).range s.bootMapped a.toNat :=
  Machine.owner_range _ _

theorem State.range_of_owner {s : State} {a : Word} {o : Owner} (h : s.owner a = o) :
    o.range s.bootMapped a.toNat := h ▸ Machine.owner_range _ _

/-- A read sees the byte the unit holds, and what the unit's read hook looks at, and nothing else. -/
theorem busRead_congr {s t : State} {b : Word} (ho : s.owner b = t.owner b)
    (hst : s.stored (s.owner b) b.toNat = t.stored (t.owner b) b.toNat) (hm : s.ppu.mode = t.ppu.mode)
    (hc : s.cfg = t.cfg) (he : s.owner b = .timer → s.timerEpoch = t.timerEpoch) : busRead t b = busRead s b := by
  by_cases hg : isGap b = true
  · rw [busRead_of_gap hg, busRead_of_gap hg]
  · have hg : isGap b = false := by simpa using hg
    rw [busRead_of_not_gap hg, busRead_of_not_gap hg, ← hst, ← ho]
    congr 1
    have hv : t.vramBlocked = s.vramBlocked := by simp only [State.vramBlocked, hm]
    have hq : t.oamBlocked = s.oamBlocked := by simp only [State.oamBlocked, hm, hc]
    cases ht : s.owner b <;> simp only [State.onRead, hv, hq, hc]
    rw [he ht]

/-! ## Reads do not look at the CPU -/

@[simp] theorem busRead_withCpu (s : State) (c : Cpu) (a : Word) : busRead { s with cpu := c } a = busRead s a := rfl
@[simp] theorem busRead_setReg (s : State) (r : Reg) (v : Byte) (a : Word) : busRead (s.setReg r v) a = busRead s a := rfl
@[simp] theorem busRead_setFlags (s : State) (f : Flags) (a : Word) : busRead (s.setFlags f) a = busRead s a := rfl
@[simp] theorem busRead_setSp (s : State) (w : Word) (a : Word) : busRead (s.setSp w) a = busRead s a := rfl
@[simp] theorem busRead_setPc (s : State) (w : Word) (a : Word) : busRead (s.setPc w) a = busRead s a := rfl
@[simp] theorem busRead_setIme (s : State) (v : Bool) (a : Word) : busRead (s.setIme v) a = busRead s a := rfl
@[simp] theorem busRead_setHalted (s : State) (v : Bool) (a : Word) : busRead (s.setHalted v) a = busRead s a := rfl
@[simp] theorem busRead_setCycles (s : State) (n : Nat) (a : Word) : busRead (s.setCycles n) a = busRead s a := rfl
@[simp] theorem busRead_setBc (s : State) (w : Word) (a : Word) : busRead (s.setBc w) a = busRead s a := rfl
@[simp] theorem busRead_setDe (s : State) (w : Word) (a : Word) : busRead (s.setDe w) a = busRead s a := rfl
@[simp] theorem busRead_setHl (s : State) (w : Word) (a : Word) : busRead (s.setHl w) a = busRead s a := rfl
@[simp] theorem busRead_setAf (s : State) (w : Word) (a : Word) : busRead (s.setAf w) a = busRead s a := rfl
@[simp] theorem busRead_setRr (s : State) (r : RR) (w : Word) (a : Word) : busRead (s.setRr r w) a = busRead s a := by
  cases r <;> rfl
@[simp] theorem busRead_setQq (s : State) (q : QQ) (w : Word) (a : Word) : busRead (s.setQq q w) a = busRead s a := by
  cases q <;> rfl

/-! ## DMA -/

/-- The copy changes memory only, keeps its canonical form, and touches object memory only. -/
theorem dmaLoop_inv {n : Nat} {src : Word} {i : Nat} {s t : State} (h : dmaLoop n src i s = .ok t) :
    ∃ m, t = { s with ram := m } ∧ (s.ram.wf = true → m.wf = true) ∧
      ∀ k, (k < 0xFE00 + i ∨ 0xFE00 + i + n ≤ k) → m.read k = s.ram.read k := by
  induction n generalizing src i s with
  | zero =>
    simp only [dmaLoop, Except.ok.injEq] at h
    subst h
    exact ⟨s.ram, rfl, id, fun _ _ => rfl⟩
  | succ n ih =>
    simp only [dmaLoop] at h
    split at h
    · obtain ⟨m, rfl, hw, hr⟩ := ih h
      refine ⟨m, rfl, fun hs => hw (Memory.wf_write hs _ _), fun k hk => ?_⟩
      rw [hr k (by omega), Memory.read_write_other _ (by omega)]
    · cases h

theorem dmaLoop_withCpu (n : Nat) (src : Word) (i : Nat) (s : State) (c : Cpu) :
    dmaLoop n src i { s with cpu := c } = (dmaLoop n src i s).map fun t => { t with cpu := c } := by
  induction n generalizing src i s with
  | zero => rfl
  | succ n ih =>
    simp only [dmaLoop, busRead_withCpu]
    cases busRead s src with
    | error f => rfl
    | ok b => exact ih _ _ { s with ram := s.ram.write (0xFE00 + i) b }

/-- The copy succeeds when none of its sources is a gap. -/
theorem dmaLoop_ok {n : Nat} {src : Word} {i : Nat} {s : State}
    (h : ∀ k, k < n → isGap (src + BitVec.ofNat 16 k) = false) : ∃ t, dmaLoop n src i s = .ok t := by
  induction n generalizing src i s with
  | zero => exact ⟨s, rfl⟩
  | succ n ih =>
    have h0 : isGap src = false := by simpa using h 0 (by omega)
    simp only [dmaLoop, busRead_of_not_gap h0]
    refine ih fun k hk => ?_
    have := h (k + 1) (by omega)
    rwa [BitVec.add_assoc, show (1 : Word) + BitVec.ofNat 16 k = BitVec.ofNat 16 (k + 1) by
      rw [Nat.add_comm, BitVec.ofNat_add]; rfl]

/-- No source of a copy from another page than 0xFF is a gap. -/
theorem dma_source_not_gap {v : Byte} (hv : v ≠ 0xFF) {k : Nat} (hk : k < 160) :
    isGap (mkWord v 0 + BitVec.ofNat 16 k) = false := by
  have h1 := v.isLt
  have h2 : v.toNat ≠ 255 := fun h => hv (BitVec.eq_of_toNat_eq (by simpa using h))
  have e : (mkWord v 0 + BitVec.ofNat 16 k).toNat = 256 * v.toNat + k := by
    rw [BitVec.toNat_add, mkWord_toNat, BitVec.toNat_ofNat, show (0 : Byte).toNat = 0 from rfl]
    omega
  simp only [isGap, e, Bool.or_eq_false_iff, decide_eq_false_iff_not]
  omega

theorem dmaCopy_ok {v : Byte} (hv : v ≠ 0xFF) (s : State) : ∃ t, dmaCopy v s = .ok t :=
  dmaLoop_ok fun _ hk => dma_source_not_gap hv hk

/-- The copy of page 0xFF runs into the gap at 0xFF03. -/
theorem dmaCopy_page_ff (s : State) : dmaCopy 0xFF s = .error (.gap 0xFF03) := by
  have h0 : isGap 0xFF00 = false := by decide
  have h1 : isGap 0xFF01 = false := by decide
  have h2 : isGap 0xFF02 = false := by decide
  have h3 : isGap 0xFF03 = true := by decide
  have e : mkWord (0xFF : Byte) 0 = 0xFF00 := by decide
  simp only [dmaCopy, e, dmaLoop, busRead_of_not_gap h0, show (0xFF00 : Word) + 1 = 0xFF01 by decide,
    busRead_of_not_gap h1, show (0xFF01 : Word) + 1 = 0xFF02 by decide, busRead_of_not_gap h2,
    show (0xFF02 : Word) + 1 = 0xFF03 by decide, busRead_of_gap h3]

/-! ## Writes -/

theorem OnlyMemory.refl (s : State) : OnlyMemory s s := ⟨rfl, rfl, rfl, rfl, rfl, rfl, rfl, rfl, rfl, rfl, rfl⟩

theorem OnlyMemory.trans {s t u : State} (h : OnlyMemory s t) (h' : OnlyMemory t u) : OnlyMemory s u :=
  ⟨h'.1.trans h.1, h'.2.trans h.2, h'.3.trans h.3, h'.4.trans h.4, h'.5.trans h.5, h'.6.trans h.6, h'.7.trans h.7,
    h'.8.trans h.8, h'.9.trans h.9, h'.10.trans h.10, h'.11.trans h.11⟩

theorem State.store_onlyMemory (s : State) (o : Owner) (a : Nat) (v : Byte) : OnlyMemory s (s.store o a v) := by
  cases o <;> exact ⟨rfl, rfl, rfl, rfl, rfl, rfl, rfl, rfl, rfl, rfl, rfl⟩

theorem State.store_ram_wf {s : State} (h : s.ram.wf = true) (o : Owner) (a : Nat) (v : Byte) :
    (s.store o a v).ram.wf = true := by
  cases o <;> first | exact h | exact Memory.wf_write h _ _

@[simp] theorem State.store_romBank (s : State) (o : Owner) (a : Nat) (v : Byte) : (s.store o a v).romBank = s.romBank := by
  cases o <;> rfl

theorem State.store_withCpu (s : State) (o : Owner) (a : Nat) (v : Byte) (c : Cpu) :
    State.store { s with cpu := c } o a v = { s.store o a v with cpu := c } := by
  cases o <;> rfl

theorem bankOf_ne_zero (v : Byte) : bankOf v ≠ 0 := by
  simp only [bankOf]
  split
  · decide
  · assumption

/-- What a write hook can change. -/
theorem State.onWrite_inv {s t : State} {o : Owner} {a : Word} {v : Byte} {w : Option Byte}
    (h : s.onWrite o a v = .ok (t, w)) :
    OnlyMemory s t ∧ (s.ram.wf = true → t.ram.wf = true) ∧ (s.romBank ≠ 0 → t.romBank ≠ 0) ∧
      (w = none ∨ w = some v) := by
  cases o <;> simp only [State.onWrite] at h
  case cartRom =>
    split at h
    · cases h; exact ⟨.refl s, id, id, .inr rfl⟩
    · split at h <;> cases h
      · exact ⟨⟨rfl, rfl, rfl, rfl, rfl, rfl, rfl, rfl, rfl, rfl, rfl⟩, id, fun _ => bankOf_ne_zero v, .inr rfl⟩
      · exact ⟨.refl s, id, id, .inr rfl⟩
  case vram =>
    cases h; refine ⟨.refl s, id, id, ?_⟩; split <;> simp
  case oam =>
    cases h; refine ⟨.refl s, id, id, ?_⟩; split <;> simp
  case timer =>
    split at h <;> cases h
    · exact ⟨⟨rfl, rfl, rfl, rfl, rfl, rfl, rfl, rfl, rfl, rfl, rfl⟩, id, id, .inl rfl⟩
    · exact ⟨.refl s, id, id, .inr rfl⟩
  case dma =>
    split at h
    · rename_i s' hd
      cases h
      obtain ⟨m, rfl, hw, -⟩ := dmaLoop_inv hd
      exact ⟨⟨rfl, rfl, rfl, rfl, rfl, rfl, rfl, rfl, rfl, rfl, rfl⟩, hw, id, .inr rfl⟩
    · cases h
  case unmap =>
    cases h
    exact ⟨⟨rfl, rfl, rfl, rfl, rfl, rfl, rfl, rfl, rfl, rfl, rfl⟩, id, id, .inr rfl⟩
  all_goals cases h; exact ⟨.refl s, id, id, .inr rfl⟩

/-- A write that succeeds, taken apart: the hook's state and byte, and what is stored. -/
theorem busWrite_ok_inv {s t : State} {a : Word} {v : Byte} (h : busWrite s a v = .ok t) :
    s.owner a ≠ .gap ∧ ∃ u w, s.onWrite (s.owner a) a v = .ok (u, w) ∧
      t = match w with
        | none => u
        | some x => if (s.owner a).readOnly then u else u.store (s.owner a) a.toNat x := by
  simp only [busWrite] at h
  split at h
  · cases h
  · rename_i ho
    refine ⟨ho, ?_⟩
    split at h
    · cases h
    · rename_i u hw; cases h; exact ⟨_, _, hw, rfl⟩
    · rename_i u w hw
      refine ⟨_, _, hw, ?_⟩
      split at h <;> cases h <;> simp_all

/-- Work RAM is plain memory. -/
theorem busRead_wram {s : State} {a : Word} (h1 : 0xC000 ≤ a.toNat) (h2 : a.toNat < 0xE000) :
    busRead s a = .ok (s.ram.read a.toNat) := by
  have ho : s.owner a = .wram := by
    unfold State.owner Machine.owner
    rw [if_neg (by omega), if_neg (by omega), if_neg (by omega), if_neg (by omega), if_pos h2]
  simp only [busRead, ho]; rfl

theorem busWrite_wram {s : State} {a : Word} {v : Byte} (h1 : 0xC000 ≤ a.toNat) (h2 : a.toNat < 0xE000) :
    busWrite s a v = .ok { s with ram := s.ram.write a.toNat v } := by
  have ho : s.owner a = .wram := by
    unfold State.owner Machine.owner
    rw [if_neg (by omega), if_neg (by omega), if_neg (by omega), if_neg (by omega), if_pos h2]
  simp only [busWrite, ho]; rfl

/-- A write leaves alone everything the bus does not show, keeps memory canonical and the bank legal. -/
theorem busWrite_inv {s t : State} {a : Word} {v : Byte} (h : busWrite s a v = .ok t) :
    OnlyMemory s t ∧ (s.ram.wf = true → t.ram.wf = true) ∧ (s.romBank ≠ 0 → t.romBank ≠ 0) := by
  simp only [busWrite] at h
  split at h
  · cases h
  · split at h
    · cases h
    · rename_i hw
      cases h
      obtain ⟨h1, h2, h3, -⟩ := State.onWrite_inv hw
      exact ⟨h1, h2, h3⟩
    · rename_i hw
      obtain ⟨h1, h2, h3, -⟩ := State.onWrite_inv hw
      split at h <;> cases h
      · exact ⟨h1, h2, h3⟩
      · exact ⟨h1.trans (State.store_onlyMemory _ _ _ _), fun hs => State.store_ram_wf (h2 hs) _ _ _,
          fun hs => by simpa using h3 hs⟩

theorem State.onWrite_withCpu (s : State) (o : Owner) (a : Word) (v : Byte) (c : Cpu) :
    State.onWrite { s with cpu := c } o a v = (s.onWrite o a v).map fun p => ({ p.1 with cpu := c }, p.2) := by
  cases o <;> try rfl
  case cartRom =>
    simp only [State.onWrite]
    split
    · rfl
    · split <;> rfl
  case timer =>
    simp only [State.onWrite]
    split <;> rfl
  case dma =>
    simp only [State.onWrite, dmaCopy, dmaLoop_withCpu]
    cases dmaLoop 160 (mkWord v 0) 0 s <;> rfl

/-- A write does not look at the CPU. -/
theorem busWrite_withCpu (s : State) (c : Cpu) (a : Word) (v : Byte) :
    busWrite { s with cpu := c } a v = (busWrite s a v).map fun t => { t with cpu := c } := by
  have ho : State.owner { s with cpu := c } a = s.owner a := rfl
  simp only [busWrite, ho, State.onWrite_withCpu]
  split
  · rfl
  · cases s.onWrite (s.owner a) a v with
    | error f => rfl
    | ok p =>
      obtain ⟨t, _ | w⟩ := p
      · rfl
      · simp only [Except.map]
        split
        · rfl
        · rw [State.store_withCpu]

/-- A write succeeds exactly when it meets no gap. -/
theorem busWrite_ok_iff {s : State} {a : Word} {v : Byte} : (∃ t, busWrite s a v = .ok t) ↔ storeOk a v = true := by
  have hgap := State.owner_eq_gap_iff s a
  have hdma : s.owner a = .dma ↔ a = 0xFF46 := owner_eq_dma_iff _ a
  simp only [storeOk, Bool.and_eq_true, Bool.not_eq_true', Bool.or_eq_true, decide_eq_true_eq]
  constructor
  · rintro ⟨t, ht⟩
    simp only [busWrite] at ht
    split at ht
    · cases ht
    · rename_i o ho
      refine ⟨by simpa [hgap] using ho, ?_⟩
      by_contra hcon
      push Not at hcon
      obtain ⟨ha, hv⟩ := hcon
      have hd := hdma.2 ha
      rw [hd] at ht
      simp only [State.onWrite, hv, dmaCopy_page_ff] at ht
      cases ht
  · rintro ⟨h1, h2⟩
    have hng : s.owner a ≠ .gap := by rw [Ne, hgap]; simp [h1]
    have how : ∃ p, s.onWrite (s.owner a) a v = .ok p := by
      by_cases hd : s.owner a = .dma
      · rw [hd]
        obtain ⟨t, ht⟩ := dmaCopy_ok (h2.resolve_left (by simp [hdma.1 hd])) s
        simp only [State.onWrite, ht]
        exact ⟨_, rfl⟩
      · cases ho : s.owner a <;> simp only [State.onWrite] <;> first | exact ⟨_, rfl⟩ | skip
        · split
          · exact ⟨_, rfl⟩
          · split <;> exact ⟨_, rfl⟩
        · split <;> exact ⟨_, rfl⟩
        · exact absurd ho hd
    obtain ⟨⟨t, w⟩, hp⟩ := how
    unfold busWrite
    split
    · rename_i h'; exact absurd h' hng
    · rw [hp]
      cases w with
      | none => exact ⟨_, rfl⟩
      | some w =>
        simp only
        split <;> exact ⟨_, rfl⟩

/-- What a read that does not succeed meets is a gap. -/
theorem busRead_error {s : State} {a : Word} {f : Fault} (h : busRead s a = .error f) : f = .gap a ∧ isGap a = true := by
  by_cases hg : isGap a = true
  · rw [busRead_of_gap hg] at h; cases h; exact ⟨rfl, hg⟩
  · rw [busRead_of_not_gap (by simpa using hg)] at h; cases h

/-- A copy that does not succeed meets a gap. -/
theorem dmaLoop_error {n : Nat} {src : Word} {i : Nat} {s : State} {f : Fault} (h : dmaLoop n src i s = .error f) :
    ∃ g, f = .gap g ∧ isGap g = true := by
  induction n generalizing src i s with
  | zero => cases h
  | succ n ih =>
    simp only [dmaLoop] at h
    split at h
    · exact ih h
    · rename_i f' hr; cases h; exact ⟨src, busRead_error hr⟩

/-- What a write that does not succeed meets is a gap. -/
theorem busWrite_error {s : State} {a : Word} {v : Byte} {f : Fault} (h : busWrite s a v = .error f) :
    ∃ g, f = .gap g ∧ isGap g = true := by
  simp only [busWrite] at h
  split at h
  · rename_i ho; cases h; exact ⟨a, rfl, (State.owner_eq_gap_iff s a).1 ho⟩
  · split at h
    · rename_i hw
      cases h
      cases ho : s.owner a <;> simp only [ho, State.onWrite] at hw
      case cartRom => split at hw <;> (try split at hw) <;> cases hw
      case timer => split at hw <;> cases hw
      case dma =>
        split at hw
        · cases hw
        · rename_i hr; cases hw; exact dmaLoop_error hr
      all_goals cases hw
    · cases h
    · split at h <;> cases h

end Sys2Proof.Machine
end

