-- ==== Sys2Proof/Laws/Ops.lean ====
section
/-! SUPPORT. Laws/Ops.lean: one lemma per shared operation: what it can do, and when it completes. -/

namespace Sys2Proof.Machine

/-! ## `finish` -/

@[simp] theorem finish_ok (n : Nat) (s : State) : finish n (.ok s) = .next (s.setCycles n) := rfl
@[simp] theorem finish_error (n : Nat) (f : Fault) : finish n (.error f) = .fault f := rfl

theorem finish_next_iff {n : Nat} {r : Except Fault State} {t : State} :
    finish n r = .next t ↔ ∃ u, r = .ok u ∧ t = u.setCycles n := by
  cases r with
  | error f => simp [finish]
  | ok u => simp [finish, eq_comm]

theorem finish_next_cycles {n : Nat} {r : Except Fault State} {t : State} (h : finish n r = .next t) : t.cycles = n := by
  obtain ⟨u, -, rfl⟩ := finish_next_iff.1 h
  rfl

theorem finish_fault_iff {n : Nat} {r : Except Fault State} {f : Fault} : finish n r = .fault f ↔ r = .error f := by
  cases r <;> simp [finish]

theorem finish_ne_refused (n : Nat) (r : Except Fault State) (x : Refusal) : finish n r ≠ .refused x := by
  cases r <;> simp [finish]

/-- A conditional transfer is one `finish`: of the body at the taken count, or of nothing at the base count. -/
theorem finishCond_eq (cc : Cond) (op : Byte) (body : State → Except Fault State) (s : State) :
    finishCond cc op body s =
      finish (s.cfg.cost op + if condHolds cc s.cpu.flags then s.cfg.takenExtra op else 0)
        (if condHolds cc s.cpu.flags then body s else .ok s) := by
  unfold finishCond
  split <;> rfl

/-! ## The bus with a register update around it -/

theorem busWrite_setSp (s : State) (w : Word) (a : Word) (v : Byte) :
    busWrite (s.setSp w) a v = (busWrite s a v).map fun t => { t with cpu := { s.cpu with sp := w } } :=
  busWrite_withCpu s _ a v

theorem busWrite_setIme (s : State) (b : Bool) (a : Word) (v : Byte) :
    busWrite (s.setIme b) a v = (busWrite s a v).map fun t => { t with cpu := { s.cpu with ime := b } } :=
  busWrite_withCpu s _ a v

/-! ## The stack -/

/-- A push is two bus writes, the high byte first, and the new stack pointer (rule R8). -/
theorem push16_eq (w : Word) (s : State) :
    push16 w s =
      match busWrite s (s.cpu.sp - 1) (hiByte w) with
      | .error f => .error f
      | .ok t1 =>
        match busWrite t1 (s.cpu.sp - 2) (loByte w) with
        | .error f => .error f
        | .ok t2 => .ok (t2.setSp (s.cpu.sp - 2)) := by
  have e2 : s.cpu.sp - 1 - 1 = s.cpu.sp - 2 := by bv_omega
  simp only [push16, busWrite_setSp]
  cases h1 : busWrite s (s.cpu.sp - 1) (hiByte w) with
  | error f => rfl
  | ok t1 =>
    simp only [Except.map, e2, State.setSp]
    rw [busWrite_withCpu]
    cases h2 : busWrite t1 (s.cpu.sp - 2) (loByte w) with
    | error f => rfl
    | ok t2 =>
      have hc := (busWrite_inv h2).1.cpu.trans (busWrite_inv h1).1.cpu
      simp only [Except.map, hc]

/-- What a push can do. -/
theorem push16_inv {w : Word} {s t : State} (h : push16 w s = .ok t) :
    ∃ t1 t2, busWrite s (s.cpu.sp - 1) (hiByte w) = .ok t1 ∧ busWrite t1 (s.cpu.sp - 2) (loByte w) = .ok t2 ∧
      t = t2.setSp (s.cpu.sp - 2) := by
  rw [push16_eq] at h
  split at h
  · cases h
  · rename_i t1 h1
    split at h
    · cases h
    · rename_i t2 h2
      cases h
      exact ⟨t1, t2, h1, h2, rfl⟩

/-- A push completes when neither byte meets a gap. -/
theorem push16_ok {w : Word} {s : State} (h1 : storeOk (s.cpu.sp - 1) (hiByte w) = true)
    (h2 : storeOk (s.cpu.sp - 2) (loByte w) = true) : ∃ t, push16 w s = .ok t := by
  obtain ⟨t1, e1⟩ := (busWrite_ok_iff (s := s)).2 h1
  obtain ⟨t2, e2⟩ := (busWrite_ok_iff (s := t1)).2 h2
  rw [push16_eq]
  simp only [e1, e2]
  exact ⟨_, rfl⟩

/-- What a pop can do. -/
theorem pop16_inv {s t : State} {w : Word} (h : pop16 s = .ok (w, t)) :
    ∃ l b, busRead s s.cpu.sp = .ok l ∧ busRead s (s.cpu.sp + 1) = .ok b ∧ w = mkWord b l ∧
      t = s.setSp (s.cpu.sp + 2) := by
  simp only [pop16] at h
  split at h
  · rename_i l hl
    split at h
    · rename_i b hb
      cases h
      exact ⟨l, b, hl, hb, rfl, by rw [show s.cpu.sp + 1 + 1 = s.cpu.sp + 2 by bv_omega]⟩
    · cases h
  · cases h

/-- A pop completes when both bytes can be read. -/
theorem pop16_ok {s : State} {l b : Byte} (hl : busRead s s.cpu.sp = .ok l) (hb : busRead s (s.cpu.sp + 1) = .ok b) :
    pop16 s = .ok (mkWord b l, s.setSp (s.cpu.sp + 2)) := by
  simp only [pop16, hl, hb, show s.cpu.sp + 1 + 1 = s.cpu.sp + 2 by bv_omega]

/-- A push changes no register but SP. -/
theorem push16_cpu {w : Word} {s t : State} (h : push16 w s = .ok t) : t.cpu = { s.cpu with sp := s.cpu.sp - 2 } := by
  obtain ⟨t1, t2, h1, h2, rfl⟩ := push16_inv h
  simp only [State.setSp, (busWrite_inv h2).1.cpu, (busWrite_inv h1).1.cpu]

/-- What a call can do (rules R206, R211). -/
theorem callTo_inv {w : Word} {s t : State} (h : callTo w s = .ok t) :
    ∃ u, push16 s.cpu.pc s = .ok u ∧ t = u.setPc w := by
  simp only [callTo] at h
  split at h
  · rename_i u hu; cases h; exact ⟨u, hu, rfl⟩
  · cases h

/-- What a return can do (rule R208). -/
theorem returnTo_inv {s t : State} (h : returnTo s = .ok t) :
    ∃ l b, busRead s s.cpu.sp = .ok l ∧ busRead s (s.cpu.sp + 1) = .ok b ∧
      t = (s.setSp (s.cpu.sp + 2)).setPc (mkWord b l) := by
  simp only [returnTo] at h
  split at h
  · rename_i w u hu
    cases h
    obtain ⟨l, b, h1, h2, rfl, rfl⟩ := pop16_inv hu
    exact ⟨l, b, h1, h2, rfl⟩
  · cases h

/-- What RETI can do (rule R210). -/
theorem returnFromInterrupt_inv {s t : State} (h : returnFromInterrupt s = .ok t) :
    ∃ u, returnTo s = .ok u ∧ t = u.setIme true := by
  simp only [returnFromInterrupt] at h
  split at h
  · rename_i u hu; cases h; exact ⟨u, hu, rfl⟩
  · cases h

/-- What a 16-bit store can do (rules R7, R65). -/
theorem busWrite16_inv {s t : State} {a w : Word} (h : busWrite16 s a w = .ok t) :
    ∃ u, busWrite s a (loByte w) = .ok u ∧ busWrite u (a + 1) (hiByte w) = .ok t := by
  simp only [busWrite16] at h
  split at h
  · rename_i u hu; exact ⟨u, hu, h⟩
  · cases h

theorem thenSet_inv {r : Except Fault State} {f : State → State} {t : State} (h : thenSet r f = .ok t) :
    ∃ u, r = .ok u ∧ t = f u := by
  cases r with
  | ok u => cases h; exact ⟨u, rfl, rfl⟩
  | error x => cases h

/-! ## Interrupts -/

theorem firstSource_eq_none_iff {p : Byte} : firstSource p = none ↔ p &&& 0x1F = 0 := by
  revert p; decide

theorem pendingVector_inv {s t : State} {v : Word} (h : pendingVector s = .ok (v, t)) :
    ∃ src, firstSource s.pendingByte = some src ∧ v = src.vector s.cfg.vec ∧
      t = { s with ifReg := s.ifReg &&& (0xFF ^^^ src.mask) } := by
  simp only [pendingVector] at h
  split at h
  · rename_i src hs; cases h; exact ⟨src, hs, rfl, rfl⟩
  · cases h

/-- What a service can do (rule R238): the request is chosen after the two writes, which may change IF and IE. -/
theorem takeInterrupt_inv {s t : State} (h : takeInterrupt s = .ok t) :
    ∃ u src, push16 s.cpu.pc (s.setIme false) = .ok u ∧ firstSource u.pendingByte = some src ∧
      t = (State.setPc { u with ifReg := u.ifReg &&& (0xFF ^^^ src.mask) } (src.vector u.cfg.vec)).setCycles
        (u.cycles + Config.intPenalty) := by
  simp only [takeInterrupt] at h
  split at h
  · rename_i u hu
    split at h
    · rename_i v s2 hv
      cases h
      obtain ⟨src, h1, rfl, rfl⟩ := pendingVector_inv hv
      exact ⟨u, src, hu, h1, rfl⟩
    · cases h
  · cases h

theorem wakeAfter_eq (s : State) :
    wakeAfter s = s.setHalted (s.cpu.halted && !s.hasPending) := by
  unfold wakeAfter
  by_cases h : s.cpu.halted = true <;> by_cases hp : s.hasPending = true
  · simp [h, hp]
  · simp only [h, Bool.not_eq_true _ ▸ hp]; exact (State.setHalted_self s h).symm
  · simp only [Bool.not_eq_true] at h; simp [h]
  · simp only [Bool.not_eq_true] at h; simp [h]

theorem serviceCheck_inv {s t : State} (h : serviceCheck s = .ok t) :
    (s.cpu.ime = true ∧ s.hasPending = true ∧ takeInterrupt s = .ok t) ∨
      ((s.cpu.ime = false ∨ s.hasPending = false) ∧ t = s) := by
  simp only [serviceCheck] at h
  split at h
  · rename_i hc; rw [Bool.and_eq_true] at hc; exact .inl ⟨hc.1, hc.2, h⟩
  · rename_i hc; cases h; exact .inr ⟨by simpa [imp_iff_not_or] using hc, rfl⟩

theorem endOfInstruction_inv {r : Result} {t : State} (h : endOfInstruction r = .next t) :
    ∃ s, r = .next s ∧ serviceCheck (wakeAfter s) = .ok t := by
  cases r with
  | fault f => cases h
  | refused x => cases h
  | next s =>
    simp only [endOfInstruction] at h
    split at h
    · rename_i u hu; cases h; exact ⟨s, rfl, hu⟩
    · cases h

/-! ## Operands -/

theorem withOperand_inv {op : Byte → State → State} {r : R8} {s t : State} (h : withOperand op r s = .ok t) :
    ∃ v, readR8 s r = .ok v ∧ t = op v s := by
  simp only [withOperand] at h
  split at h
  · rename_i v hv; cases h; exact ⟨v, hv, rfl⟩
  · cases h

theorem modifyOperand_inv {op : Byte → Flags → Byte × Flags} {r : R8} {s t : State} (h : modifyOperand op r s = .ok t) :
    ∃ v u, readR8 s r = .ok v ∧ writeR8 s r (op v s.cpu.flags).1 = .ok u ∧ t = u.setFlags (op v s.cpu.flags).2 := by
  simp only [modifyOperand] at h
  split at h
  · rename_i v hv
    split at h
    · rename_i u hu; cases h; exact ⟨v, u, hv, hu, rfl⟩
    · cases h
  · cases h

@[simp] theorem withOperand_reg (op : Byte → State → State) (r : Reg) (s : State) :
    withOperand op (.reg r) s = .ok (op (s.reg r) s) := rfl

@[simp] theorem modifyOperand_reg (op : Byte → Flags → Byte × Flags) (r : Reg) (s : State) :
    modifyOperand op (.reg r) s =
      .ok ((s.setReg r (op (s.reg r) s.cpu.flags).1).setFlags (op (s.reg r) s.cpu.flags).2) := rfl

/-! ## What stops an instruction -/

/-- A part of an instruction that stops at gaps only (rules R12, R54). -/
def OnlyGap {α : Type} (r : Except Fault α) : Prop := ∀ f, r = .error f → ∃ g, f = .gap g ∧ isGap g = true

theorem OnlyGap.ok {α : Type} (x : α) : OnlyGap (.ok x) := fun _ h => nomatch h

theorem onlyGap_busRead (s : State) (a : Word) : OnlyGap (busRead s a) := fun _ h => ⟨a, busRead_error h⟩

theorem onlyGap_busWrite (s : State) (a : Word) (v : Byte) : OnlyGap (busWrite s a v) := fun _ h => busWrite_error h

theorem onlyGap_busWrite16 (s : State) (a w : Word) : OnlyGap (busWrite16 s a w) := by
  intro f h
  simp only [busWrite16] at h
  split at h
  · exact onlyGap_busWrite _ _ _ _ h
  · cases h; exact onlyGap_busWrite _ _ _ _ ‹_›

theorem onlyGap_push16 (w : Word) (s : State) : OnlyGap (push16 w s) := by
  intro f h
  simp only [push16] at h
  split at h
  · exact onlyGap_busWrite _ _ _ _ h
  · cases h; exact onlyGap_busWrite _ _ _ _ ‹_›

theorem onlyGap_pop16 (s : State) : OnlyGap (pop16 s) := by
  intro f h
  simp only [pop16] at h
  split at h
  · split at h
    · cases h
    · cases h; exact onlyGap_busRead _ _ _ ‹_›
  · cases h; exact onlyGap_busRead _ _ _ ‹_›

theorem onlyGap_callTo (w : Word) (s : State) : OnlyGap (callTo w s) := by
  intro f h
  simp only [callTo] at h
  split at h
  · cases h
  · cases h; exact onlyGap_push16 _ _ _ ‹_›

theorem onlyGap_returnTo (s : State) : OnlyGap (returnTo s) := by
  intro f h
  simp only [returnTo] at h
  split at h
  · cases h
  · cases h; exact onlyGap_pop16 _ _ ‹_›

theorem onlyGap_returnFromInterrupt (s : State) : OnlyGap (returnFromInterrupt s) := by
  intro f h
  simp only [returnFromInterrupt] at h
  split at h
  · cases h
  · cases h; exact onlyGap_returnTo _ _ ‹_›

theorem OnlyGap.thenSet {r : Except Fault State} (hr : OnlyGap r) (f : State → State) : OnlyGap (thenSet r f) := by
  intro x h
  cases r with
  | ok u => cases h
  | error y => cases h; exact hr _ rfl

theorem onlyGap_readR8 (s : State) (r : R8) : OnlyGap (readR8 s r) := by
  rcases r with r | _
  · exact .ok _
  · exact onlyGap_busRead _ _

theorem onlyGap_writeR8 (s : State) (r : R8) (v : Byte) : OnlyGap (writeR8 s r v) := by
  rcases r with r | _
  · exact .ok _
  · exact onlyGap_busWrite _ _ _

theorem onlyGap_withOperand (op : Byte → State → State) (r : R8) (s : State) : OnlyGap (withOperand op r s) := by
  intro f h
  simp only [withOperand] at h
  split at h
  · cases h
  · cases h; exact onlyGap_readR8 _ _ _ ‹_›

theorem onlyGap_modifyOperand (op : Byte → Flags → Byte × Flags) (r : R8) (s : State) :
    OnlyGap (modifyOperand op r s) := by
  intro f h
  simp only [modifyOperand] at h
  split at h
  · split at h
    · cases h
    · cases h; exact onlyGap_writeR8 _ _ _ _ ‹_›
  · cases h; exact onlyGap_readR8 _ _ _ ‹_›

end Sys2Proof.Machine
end

