-- ==== Sys2Proof/Laws/Exec.lean ====
section
/-! SUPPORT. Laws/Exec.lean: the count of an instruction, the meaning of each family of the opcode maps in one equation, and
the shape every meaning has. -/

namespace Sys2Proof.Machine

variable (s : State)

/-! ## What an instruction costs -/

/-- The count depends on the cycle parameters alone. -/
theorem DefaultCosts.costOf_eq {c : Config} (h : DefaultCosts c) (i : Instr) (f : Flags) :
    costOf c i f = costOf Config.default i f := by
  simp only [costOf, Config.cost, Config.costCb, Config.takenExtra, h.cyc, h.cycCb, h.cycTakenExtra, h.cycUnrecognized]

/-- An instruction whose meaning finishes with its count completes when its body does. -/
theorem Completes.of_finish {i : Instr} {s t : State} {r : Except Fault State} {n : Nat}
    (h : exec i s = finish (costOf s.cfg i s.cpu.flags) r) (hr : r = .ok t)
    (hn : costOf Config.default i s.cpu.flags = n) : Completes i s t n :=
  ⟨by rw [h, hr, finish_ok], hn⟩

/-! ## 8-bit loads -/

theorem exec_ldR8R8 {d q : R8} (h : ¬(d = .memHl ∧ q = .memHl)) :
    exec (.ldR8R8 d q) s = finish (costOf s.cfg (.ldR8R8 d q) s.cpu.flags) (move d q s) := by
  rcases d with x | _ <;> rcases q with q | _
  · cases x <;> cases q <;> rfl
  · cases x <;> rfl
  · cases q <;> rfl
  · exact absurd ⟨rfl, rfl⟩ h

theorem exec_ldR8D8 (d : R8) (v : Byte) :
    exec (.ldR8D8 d v) s = finish (costOf s.cfg (.ldR8D8 d v) s.cpu.flags) (writeR8 s d v) := by
  rcases d with x | _
  · cases x <;> rfl
  · rfl

/-! ## 8-bit arithmetic and logic -/

theorem exec_aluR8 (op : AluOp) (r : R8) :
    exec (.aluR8 op r) s = finish (costOf s.cfg (.aluR8 op r) s.cpu.flags) (withOperand (aluA op) r s) := by
  rcases r with r | _
  · cases op <;> cases r <;> rfl
  · cases op <;> rfl

theorem exec_aluD8 (op : AluOp) (v : Byte) : exec (.aluD8 op v) s = .next ((aluA op v s).setCycles (costOf s.cfg (.aluD8 op v) s.cpu.flags)) := by
  cases op <;> rfl

theorem exec_incR8 (r : R8) :
    exec (.incR8 r) s = finish (costOf s.cfg (.incR8 r) s.cpu.flags) (modifyOperand inc8 r s) := by
  rcases r with r | _
  · cases r <;> rfl
  · rfl

theorem exec_decR8 (r : R8) :
    exec (.decR8 r) s = finish (costOf s.cfg (.decR8 r) s.cpu.flags) (modifyOperand dec8 r s) := by
  rcases r with r | _
  · cases r <;> rfl
  · rfl

/-! ## 16-bit loads and arithmetic -/

theorem exec_ldRrD16 (r : RR) (w : Word) : exec (.ldRrD16 r w) s = .next ((s.setRr r w).setCycles (costOf s.cfg (.ldRrD16 r w) s.cpu.flags)) := by
  cases r <;> rfl

theorem exec_addHlRr (r : RR) : exec (.addHlRr r) s = .next ((addHl (s.rr r) s).setCycles (costOf s.cfg (.addHlRr r) s.cpu.flags)) := by
  cases r <;> rfl

theorem exec_incRr (r : RR) : exec (.incRr r) s = .next ((s.setRr r (s.rr r + 1)).setCycles (costOf s.cfg (.incRr r) s.cpu.flags)) := by
  cases r <;> rfl

theorem exec_decRr (r : RR) : exec (.decRr r) s = .next ((s.setRr r (s.rr r - 1)).setCycles (costOf s.cfg (.decRr r) s.cpu.flags)) := by
  cases r <;> rfl

theorem exec_pushQq (q : QQ) : exec (.pushQq q) s = finish (costOf s.cfg (.pushQq q) s.cpu.flags) (push16 (s.qq q) s) := by
  cases q <;> rfl

theorem exec_popQq (q : QQ) : exec (.popQq q) s = finish (costOf s.cfg (.popQq q) s.cpu.flags) (popTo q s) := by
  cases q <;> rfl

/-! ## Control transfer -/

theorem exec_jrCc (cc : Cond) (e : Byte) :
    exec (.jrCc cc e) s =
      finish (costOf s.cfg (.jrCc cc e) s.cpu.flags) (if condHolds cc s.cpu.flags then jumpRel e s else .ok s) := by
  cases cc <;> exact finishCond_eq _ _ _ _

theorem exec_jpCc (cc : Cond) (w : Word) :
    exec (.jpCc cc w) s =
      finish (costOf s.cfg (.jpCc cc w) s.cpu.flags) (if condHolds cc s.cpu.flags then jump w s else .ok s) := by
  cases cc <;> exact finishCond_eq _ _ _ _

theorem exec_callCc (cc : Cond) (w : Word) :
    exec (.callCc cc w) s =
      finish (costOf s.cfg (.callCc cc w) s.cpu.flags) (if condHolds cc s.cpu.flags then callTo w s else .ok s) := by
  cases cc <;> exact finishCond_eq _ _ _ _

theorem exec_retCc (cc : Cond) :
    exec (.retCc cc) s =
      finish (costOf s.cfg (.retCc cc) s.cpu.flags) (if condHolds cc s.cpu.flags then returnTo s else .ok s) := by
  cases cc <;> exact finishCond_eq _ _ _ _

theorem exec_rst (t : Oct) : exec (.rst t) s = finish (costOf s.cfg (.rst t) s.cpu.flags) (callTo (rstTarget t) s) := by
  cases t <;> rfl

/-! ## Rotates, shifts, bits -/

theorem exec_rotR8 (op : RotOp) (r : R8) :
    exec (.rotR8 op r) s = finish (costOf s.cfg (.rotR8 op r) s.cpu.flags) (modifyOperand (rot8 op) r s) := by
  rcases r with r | _
  · cases op <;> cases r <;> rfl
  · cases op <;> rfl

theorem exec_bitR8 (b : Oct) (r : R8) :
    exec (.bitR8 b r) s = finish (costOf s.cfg (.bitR8 b r) s.cpu.flags) (withOperand (bitTest b) r s) := by
  rcases r with r | _
  · cases b <;> cases r <;> rfl
  · cases b <;> rfl

theorem exec_resR8 (b : Oct) (r : R8) :
    exec (.resR8 b r) s = finish (costOf s.cfg (.resR8 b r) s.cpu.flags) (modifyOperand (res8 b) r s) := by
  rcases r with r | _
  · cases b <;> cases r <;> rfl
  · cases b <;> rfl

theorem exec_setR8 (b : Oct) (r : R8) :
    exec (.setR8 b r) s = finish (costOf s.cfg (.setR8 b r) s.cpu.flags) (modifyOperand (set8 b) r s) := by
  rcases r with r | _
  · cases b <;> cases r <;> rfl
  · cases b <;> rfl

/-! ## What the shared parts of the meanings can do -/

theorem move_inv {d q : R8} {s t : State} (h : move d q s = .ok t) :
    ∃ v, readR8 s q = .ok v ∧ writeR8 s d v = .ok t := by
  simp only [move] at h
  split at h
  · rename_i v hv; exact ⟨v, hv, h⟩
  · cases h

theorem onlyGap_move (d q : R8) (s : State) : OnlyGap (move d q s) := by
  intro f h
  simp only [move] at h
  split at h
  · exact onlyGap_writeR8 _ _ _ _ h
  · cases h; exact onlyGap_readR8 _ _ _ ‹_›

theorem loadA_inv {a : Word} {s t : State} (h : loadA a s = .ok t) : ∃ v, busRead s a = .ok v ∧ t = s.setReg .a v := by
  simp only [loadA] at h
  split at h
  · rename_i v hv; cases h; exact ⟨v, hv, rfl⟩
  · cases h

theorem onlyGap_loadA (a : Word) (s : State) : OnlyGap (loadA a s) := by
  intro f h
  simp only [loadA] at h
  split at h
  · cases h
  · cases h; exact onlyGap_busRead _ _ _ ‹_›

theorem popTo_inv {q : QQ} {s t : State} (h : popTo q s = .ok t) :
    ∃ l b, busRead s s.cpu.sp = .ok l ∧ busRead s (s.cpu.sp + 1) = .ok b ∧
      t = (s.setSp (s.cpu.sp + 2)).setQq q (mkWord b l) := by
  simp only [popTo] at h
  split at h
  · rename_i w u hu
    cases h
    obtain ⟨l, b, h1, h2, rfl, rfl⟩ := pop16_inv hu
    exact ⟨l, b, h1, h2, rfl⟩
  · cases h

theorem onlyGap_popTo (q : QQ) (s : State) : OnlyGap (popTo q s) := by
  intro f h
  simp only [popTo] at h
  split at h
  · cases h
  · cases h; exact onlyGap_pop16 _ _ ‹_›

end Sys2Proof.Machine
end

