-- ==== Sys2Proof/Laws/Families.lean ====
section
/-! SUPPORT. Laws/Families.lean: the prefix, and case analysis of an instruction by the lines of the opcode maps (rules R90,
R98, R99). -/

namespace Sys2Proof

/-! ## The prefix -/

@[simp] theorem decodeOpWith_prefix (pfx n1 n2 : Byte) : decodeOpWith pfx pfx n1 n2 = decodeCb n1 := if_pos rfl

@[simp] theorem lengthOfWith_prefix (pfx : Byte) : lengthOfWith pfx pfx = .two := if_pos rfl

theorem decodeOpWith_of_ne {pfx op : Byte} (h : op ≠ pfx) (n1 n2 : Byte) : decodeOpWith pfx op n1 n2 = decodeOp op n1 n2 :=
  if_neg h

theorem lengthOfWith_of_ne {pfx op : Byte} (h : op ≠ pfx) : lengthOfWith pfx op = lengthOf op := if_neg h

/-- With the prefix at 0xCB the base table alone decodes, since its cell of that byte opens the extended table. -/
@[simp] theorem decodeOpWith_default (op n1 n2 : Byte) : decodeOpWith 0xCB op n1 n2 = decodeOp op n1 n2 := by
  by_cases h : op = 0xCB
  · subst h; rfl
  · exact decodeOpWith_of_ne h n1 n2

@[simp] theorem lengthOfWith_default (op : Byte) : lengthOfWith 0xCB op = lengthOf op := by
  by_cases h : op = 0xCB
  · subst h; rfl
  · exact lengthOfWith_of_ne h

/-! ## The lines of the maps -/

/-- A property holds of every instruction when it holds of every family of the maps and of every instruction of its own
line. -/
theorem Instr.families {P : Instr → Prop}
    (ldR8R8 : ∀ r q, ¬(r = .memHl ∧ q = .memHl) → P (.ldR8R8 r q))
    (ldR8D8 : ∀ r v, P (.ldR8D8 r v))
    (incR8 : ∀ r, P (.incR8 r))
    (decR8 : ∀ r, P (.decR8 r))
    (aluR8 : ∀ op r, P (.aluR8 op r))
    (aluD8 : ∀ op v, P (.aluD8 op v))
    (ldRrD16 : ∀ r w, P (.ldRrD16 r w))
    (addHlRr : ∀ r, P (.addHlRr r))
    (incRr : ∀ r, P (.incRr r))
    (decRr : ∀ r, P (.decRr r))
    (pushQq : ∀ q, P (.pushQq q))
    (popQq : ∀ q, P (.popQq q))
    (jrCc : ∀ cc e, P (.jrCc cc e))
    (jpCc : ∀ cc w, P (.jpCc cc w))
    (callCc : ∀ cc w, P (.callCc cc w))
    (retCc : ∀ cc, P (.retCc cc))
    (rst : ∀ t, P (.rst t))
    (rotR8 : ∀ op r, P (.rotR8 op r))
    (bitR8 : ∀ b r, P (.bitR8 b r))
    (resR8 : ∀ b r, P (.resR8 b r))
    (setR8 : ∀ b r, P (.setR8 b r))
    (nop : P .nop)
    (ldMemBcA : P .ldMemBcA)
    (rlca : P .rlca)
    (ldMemA16Sp : ∀ a16, P (.ldMemA16Sp a16))
    (ldAMemBc : P .ldAMemBc)
    (rrca : P .rrca)
    (stop : ∀ pad, P (.stop pad))
    (ldMemDeA : P .ldMemDeA)
    (rla : P .rla)
    (jrE8 : ∀ e8, P (.jrE8 e8))
    (ldAMemDe : P .ldAMemDe)
    (rra : P .rra)
    (ldMemHlIncA : P .ldMemHlIncA)
    (daa : P .daa)
    (ldAMemHlInc : P .ldAMemHlInc)
    (cpl : P .cpl)
    (ldMemHlDecA : P .ldMemHlDecA)
    (scf : P .scf)
    (ldAMemHlDec : P .ldAMemHlDec)
    (ccf : P .ccf)
    (halt : P .halt)
    (jpA16 : ∀ a16, P (.jpA16 a16))
    (ret : P .ret)
    (callA16 : ∀ a16, P (.callA16 a16))
    (unrecognized : ∀ i, i.isUnrecognized = true → P i)
    (reti : P .reti)
    (ldhMemA8A : ∀ a8, P (.ldhMemA8A a8))
    (ldMemCA : P .ldMemCA)
    (addSpE8 : ∀ e8, P (.addSpE8 e8))
    (jpHl : P .jpHl)
    (ldMemA16A : ∀ a16, P (.ldMemA16A a16))
    (ldhAMemA8 : ∀ a8, P (.ldhAMemA8 a8))
    (ldAMemC : P .ldAMemC)
    (di : P .di)
    (ldHlSpE8 : ∀ e8, P (.ldHlSpE8 e8))
    (ldSpHl : P .ldSpHl)
    (ldAMemA16 : ∀ a16, P (.ldAMemA16 a16))
    (ei : P .ei) :
    ∀ i, P i := by
  intro i
  cases i with
  | nop => exact nop
  | ldBcD16 v => exact ldRrD16 .bc v
  | ldMemBcA => exact ldMemBcA
  | incBc => exact incRr .bc
  | incB => exact incR8 (.reg .b)
  | decB => exact decR8 (.reg .b)
  | ldBD8 v => exact ldR8D8 (.reg .b) v
  | rlca => exact rlca
  | ldMemA16Sp v => exact ldMemA16Sp v
  | addHlBc => exact addHlRr .bc
  | ldAMemBc => exact ldAMemBc
  | decBc => exact decRr .bc
  | incC => exact incR8 (.reg .c)
  | decC => exact decR8 (.reg .c)
  | ldCD8 v => exact ldR8D8 (.reg .c) v
  | rrca => exact rrca
  | stop v => exact stop v
  | ldDeD16 v => exact ldRrD16 .de v
  | ldMemDeA => exact ldMemDeA
  | incDe => exact incRr .de
  | incD => exact incR8 (.reg .d)
  | decD => exact decR8 (.reg .d)
  | ldDD8 v => exact ldR8D8 (.reg .d) v
  | rla => exact rla
  | jrE8 v => exact jrE8 v
  | addHlDe => exact addHlRr .de
  | ldAMemDe => exact ldAMemDe
  | decDe => exact decRr .de
  | incE => exact incR8 (.reg .e)
  | decE => exact decR8 (.reg .e)
  | ldED8 v => exact ldR8D8 (.reg .e) v
  | rra => exact rra
  | jrNzE8 v => exact jrCc .nz v
  | ldHlD16 v => exact ldRrD16 .hl v
  | ldMemHlIncA => exact ldMemHlIncA
  | incHl => exact incRr .hl
  | incH => exact incR8 (.reg .h)
  | decH => exact decR8 (.reg .h)
  | ldHD8 v => exact ldR8D8 (.reg .h) v
  | daa => exact daa
  | jrZE8 v => exact jrCc .z v
  | addHlHl => exact addHlRr .hl
  | ldAMemHlInc => exact ldAMemHlInc
  | decHl => exact decRr .hl
  | incL => exact incR8 (.reg .l)
  | decL => exact decR8 (.reg .l)
  | ldLD8 v => exact ldR8D8 (.reg .l) v
  | cpl => exact cpl
  | jrNcE8 v => exact jrCc .nc v
  | ldSpD16 v => exact ldRrD16 .sp v
  | ldMemHlDecA => exact ldMemHlDecA
  | incSp => exact incRr .sp
  | incMemHl => exact incR8 .memHl
  | decMemHl => exact decR8 .memHl
  | ldMemHlD8 v => exact ldR8D8 .memHl v
  | scf => exact scf
  | jrCE8 v => exact jrCc .c v
  | addHlSp => exact addHlRr .sp
  | ldAMemHlDec => exact ldAMemHlDec
  | decSp => exact decRr .sp
  | incA => exact incR8 (.reg .a)
  | decA => exact decR8 (.reg .a)
  | ldAD8 v => exact ldR8D8 (.reg .a) v
  | ccf => exact ccf
  | ldBB => exact ldR8R8 (.reg .b) (.reg .b) (by decide)
  | ldBC => exact ldR8R8 (.reg .b) (.reg .c) (by decide)
  | ldBD => exact ldR8R8 (.reg .b) (.reg .d) (by decide)
  | ldBE => exact ldR8R8 (.reg .b) (.reg .e) (by decide)
  | ldBH => exact ldR8R8 (.reg .b) (.reg .h) (by decide)
  | ldBL => exact ldR8R8 (.reg .b) (.reg .l) (by decide)
  | ldBMemHl => exact ldR8R8 (.reg .b) .memHl (by decide)
  | ldBA => exact ldR8R8 (.reg .b) (.reg .a) (by decide)
  | ldCB => exact ldR8R8 (.reg .c) (.reg .b) (by decide)
  | ldCC => exact ldR8R8 (.reg .c) (.reg .c) (by decide)
  | ldCD => exact ldR8R8 (.reg .c) (.reg .d) (by decide)
  | ldCE => exact ldR8R8 (.reg .c) (.reg .e) (by decide)
  | ldCH => exact ldR8R8 (.reg .c) (.reg .h) (by decide)
  | ldCL => exact ldR8R8 (.reg .c) (.reg .l) (by decide)
  | ldCMemHl => exact ldR8R8 (.reg .c) .memHl (by decide)
  | ldCA => exact ldR8R8 (.reg .c) (.reg .a) (by decide)
  | ldDB => exact ldR8R8 (.reg .d) (.reg .b) (by decide)
  | ldDC => exact ldR8R8 (.reg .d) (.reg .c) (by decide)
  | ldDD => exact ldR8R8 (.reg .d) (.reg .d) (by decide)
  | ldDE => exact ldR8R8 (.reg .d) (.reg .e) (by decide)
  | ldDH => exact ldR8R8 (.reg .d) (.reg .h) (by decide)
  | ldDL => exact ldR8R8 (.reg .d) (.reg .l) (by decide)
  | ldDMemHl => exact ldR8R8 (.reg .d) .memHl (by decide)
  | ldDA => exact ldR8R8 (.reg .d) (.reg .a) (by decide)
  | ldEB => exact ldR8R8 (.reg .e) (.reg .b) (by decide)
  | ldEC => exact ldR8R8 (.reg .e) (.reg .c) (by decide)
  | ldED => exact ldR8R8 (.reg .e) (.reg .d) (by decide)
  | ldEE => exact ldR8R8 (.reg .e) (.reg .e) (by decide)
  | ldEH => exact ldR8R8 (.reg .e) (.reg .h) (by decide)
  | ldEL => exact ldR8R8 (.reg .e) (.reg .l) (by decide)
  | ldEMemHl => exact ldR8R8 (.reg .e) .memHl (by decide)
  | ldEA => exact ldR8R8 (.reg .e) (.reg .a) (by decide)
  | ldHB => exact ldR8R8 (.reg .h) (.reg .b) (by decide)
  | ldHC => exact ldR8R8 (.reg .h) (.reg .c) (by decide)
  | ldHD => exact ldR8R8 (.reg .h) (.reg .d) (by decide)
  | ldHE => exact ldR8R8 (.reg .h) (.reg .e) (by decide)
  | ldHH => exact ldR8R8 (.reg .h) (.reg .h) (by decide)
  | ldHL => exact ldR8R8 (.reg .h) (.reg .l) (by decide)
  | ldHMemHl => exact ldR8R8 (.reg .h) .memHl (by decide)
  | ldHA => exact ldR8R8 (.reg .h) (.reg .a) (by decide)
  | ldLB => exact ldR8R8 (.reg .l) (.reg .b) (by decide)
  | ldLC => exact ldR8R8 (.reg .l) (.reg .c) (by decide)
  | ldLD => exact ldR8R8 (.reg .l) (.reg .d) (by decide)
  | ldLE => exact ldR8R8 (.reg .l) (.reg .e) (by decide)
  | ldLH => exact ldR8R8 (.reg .l) (.reg .h) (by decide)
  | ldLL => exact ldR8R8 (.reg .l) (.reg .l) (by decide)
  | ldLMemHl => exact ldR8R8 (.reg .l) .memHl (by decide)
  | ldLA => exact ldR8R8 (.reg .l) (.reg .a) (by decide)
  | ldMemHlB => exact ldR8R8 .memHl (.reg .b) (by decide)
  | ldMemHlC => exact ldR8R8 .memHl (.reg .c) (by decide)
  | ldMemHlD => exact ldR8R8 .memHl (.reg .d) (by decide)
  | ldMemHlE => exact ldR8R8 .memHl (.reg .e) (by decide)
  | ldMemHlH => exact ldR8R8 .memHl (.reg .h) (by decide)
  | ldMemHlL => exact ldR8R8 .memHl (.reg .l) (by decide)
  | halt => exact halt
  | ldMemHlA => exact ldR8R8 .memHl (.reg .a) (by decide)
  | ldAB => exact ldR8R8 (.reg .a) (.reg .b) (by decide)
  | ldAC => exact ldR8R8 (.reg .a) (.reg .c) (by decide)
  | ldAD => exact ldR8R8 (.reg .a) (.reg .d) (by decide)
  | ldAE => exact ldR8R8 (.reg .a) (.reg .e) (by decide)
  | ldAH => exact ldR8R8 (.reg .a) (.reg .h) (by decide)
  | ldAL => exact ldR8R8 (.reg .a) (.reg .l) (by decide)
  | ldAMemHl => exact ldR8R8 (.reg .a) .memHl (by decide)
  | ldAA => exact ldR8R8 (.reg .a) (.reg .a) (by decide)
  | addAB => exact aluR8 .add (.reg .b)
  | addAC => exact aluR8 .add (.reg .c)
  | addAD => exact aluR8 .add (.reg .d)
  | addAE => exact aluR8 .add (.reg .e)
  | addAH => exact aluR8 .add (.reg .h)
  | addAL => exact aluR8 .add (.reg .l)
  | addAMemHl => exact aluR8 .add .memHl
  | addAA => exact aluR8 .add (.reg .a)
  | adcAB => exact aluR8 .adc (.reg .b)
  | adcAC => exact aluR8 .adc (.reg .c)
  | adcAD => exact aluR8 .adc (.reg .d)
  | adcAE => exact aluR8 .adc (.reg .e)
  | adcAH => exact aluR8 .adc (.reg .h)
  | adcAL => exact aluR8 .adc (.reg .l)
  | adcAMemHl => exact aluR8 .adc .memHl
  | adcAA => exact aluR8 .adc (.reg .a)
  | subB => exact aluR8 .sub (.reg .b)
  | subC => exact aluR8 .sub (.reg .c)
  | subD => exact aluR8 .sub (.reg .d)
  | subE => exact aluR8 .sub (.reg .e)
  | subH => exact aluR8 .sub (.reg .h)
  | subL => exact aluR8 .sub (.reg .l)
  | subMemHl => exact aluR8 .sub .memHl
  | subA => exact aluR8 .sub (.reg .a)
  | sbcAB => exact aluR8 .sbc (.reg .b)
  | sbcAC => exact aluR8 .sbc (.reg .c)
  | sbcAD => exact aluR8 .sbc (.reg .d)
  | sbcAE => exact aluR8 .sbc (.reg .e)
  | sbcAH => exact aluR8 .sbc (.reg .h)
  | sbcAL => exact aluR8 .sbc (.reg .l)
  | sbcAMemHl => exact aluR8 .sbc .memHl
  | sbcAA => exact aluR8 .sbc (.reg .a)
  | andB => exact aluR8 .and (.reg .b)
  | andC => exact aluR8 .and (.reg .c)
  | andD => exact aluR8 .and (.reg .d)
  | andE => exact aluR8 .and (.reg .e)
  | andH => exact aluR8 .and (.reg .h)
  | andL => exact aluR8 .and (.reg .l)
  | andMemHl => exact aluR8 .and .memHl
  | andA => exact aluR8 .and (.reg .a)
  | xorB => exact aluR8 .xor (.reg .b)
  | xorC => exact aluR8 .xor (.reg .c)
  | xorD => exact aluR8 .xor (.reg .d)
  | xorE => exact aluR8 .xor (.reg .e)
  | xorH => exact aluR8 .xor (.reg .h)
  | xorL => exact aluR8 .xor (.reg .l)
  | xorMemHl => exact aluR8 .xor .memHl
  | xorA => exact aluR8 .xor (.reg .a)
  | orB => exact aluR8 .or (.reg .b)
  | orC => exact aluR8 .or (.reg .c)
  | orD => exact aluR8 .or (.reg .d)
  | orE => exact aluR8 .or (.reg .e)
  | orH => exact aluR8 .or (.reg .h)
  | orL => exact aluR8 .or (.reg .l)
  | orMemHl => exact aluR8 .or .memHl
  | orA => exact aluR8 .or (.reg .a)
  | cpB => exact aluR8 .cp (.reg .b)
  | cpC => exact aluR8 .cp (.reg .c)
  | cpD => exact aluR8 .cp (.reg .d)
  | cpE => exact aluR8 .cp (.reg .e)
  | cpH => exact aluR8 .cp (.reg .h)
  | cpL => exact aluR8 .cp (.reg .l)
  | cpMemHl => exact aluR8 .cp .memHl
  | cpA => exact aluR8 .cp (.reg .a)
  | retNz => exact retCc .nz
  | popBc => exact popQq .bc
  | jpNzA16 v => exact jpCc .nz v
  | jpA16 v => exact jpA16 v
  | callNzA16 v => exact callCc .nz v
  | pushBc => exact pushQq .bc
  | addAD8 v => exact aluD8 .add v
  | rst00 => exact rst .o0
  | retZ => exact retCc .z
  | ret => exact ret
  | jpZA16 v => exact jpCc .z v
  | callZA16 v => exact callCc .z v
  | callA16 v => exact callA16 v
  | adcAD8 v => exact aluD8 .adc v
  | rst08 => exact rst .o1
  | retNc => exact retCc .nc
  | popDe => exact popQq .de
  | jpNcA16 v => exact jpCc .nc v
  | unrecognizedD3 => exact unrecognized _ rfl
  | callNcA16 v => exact callCc .nc v
  | pushDe => exact pushQq .de
  | subD8 v => exact aluD8 .sub v
  | rst10 => exact rst .o2
  | retC => exact retCc .c
  | reti => exact reti
  | jpCA16 v => exact jpCc .c v
  | unrecognizedDB => exact unrecognized _ rfl
  | callCA16 v => exact callCc .c v
  | unrecognizedDD => exact unrecognized _ rfl
  | sbcAD8 v => exact aluD8 .sbc v
  | rst18 => exact rst .o3
  | ldhMemA8A v => exact ldhMemA8A v
  | popHl => exact popQq .hl
  | ldMemCA => exact ldMemCA
  | unrecognizedE3 => exact unrecognized _ rfl
  | unrecognizedE4 => exact unrecognized _ rfl
  | pushHl => exact pushQq .hl
  | andD8 v => exact aluD8 .and v
  | rst20 => exact rst .o4
  | addSpE8 v => exact addSpE8 v
  | jpHl => exact jpHl
  | ldMemA16A v => exact ldMemA16A v
  | unrecognizedEB => exact unrecognized _ rfl
  | unrecognizedEC => exact unrecognized _ rfl
  | unrecognizedED => exact unrecognized _ rfl
  | xorD8 v => exact aluD8 .xor v
  | rst28 => exact rst .o5
  | ldhAMemA8 v => exact ldhAMemA8 v
  | popAf => exact popQq .af
  | ldAMemC => exact ldAMemC
  | di => exact di
  | unrecognizedF4 => exact unrecognized _ rfl
  | pushAf => exact pushQq .af
  | orD8 v => exact aluD8 .or v
  | rst30 => exact rst .o6
  | ldHlSpE8 v => exact ldHlSpE8 v
  | ldSpHl => exact ldSpHl
  | ldAMemA16 v => exact ldAMemA16 v
  | ei => exact ei
  | unrecognizedFC => exact unrecognized _ rfl
  | unrecognizedFD => exact unrecognized _ rfl
  | cpD8 v => exact aluD8 .cp v
  | rst38 => exact rst .o7
  | rlcB => exact rotR8 .rlc (.reg .b)
  | rlcC => exact rotR8 .rlc (.reg .c)
  | rlcD => exact rotR8 .rlc (.reg .d)
  | rlcE => exact rotR8 .rlc (.reg .e)
  | rlcH => exact rotR8 .rlc (.reg .h)
  | rlcL => exact rotR8 .rlc (.reg .l)
  | rlcMemHl => exact rotR8 .rlc .memHl
  | rlcA => exact rotR8 .rlc (.reg .a)
  | rrcB => exact rotR8 .rrc (.reg .b)
  | rrcC => exact rotR8 .rrc (.reg .c)
  | rrcD => exact rotR8 .rrc (.reg .d)
  | rrcE => exact rotR8 .rrc (.reg .e)
  | rrcH => exact rotR8 .rrc (.reg .h)
  | rrcL => exact rotR8 .rrc (.reg .l)
  | rrcMemHl => exact rotR8 .rrc .memHl
  | rrcA => exact rotR8 .rrc (.reg .a)
  | rlB => exact rotR8 .rl (.reg .b)
  | rlC => exact rotR8 .rl (.reg .c)
  | rlD => exact rotR8 .rl (.reg .d)
  | rlE => exact rotR8 .rl (.reg .e)
  | rlH => exact rotR8 .rl (.reg .h)
  | rlL => exact rotR8 .rl (.reg .l)
  | rlMemHl => exact rotR8 .rl .memHl
  | rlA => exact rotR8 .rl (.reg .a)
  | rrB => exact rotR8 .rr (.reg .b)
  | rrC => exact rotR8 .rr (.reg .c)
  | rrD => exact rotR8 .rr (.reg .d)
  | rrE => exact rotR8 .rr (.reg .e)
  | rrH => exact rotR8 .rr (.reg .h)
  | rrL => exact rotR8 .rr (.reg .l)
  | rrMemHl => exact rotR8 .rr .memHl
  | rrA => exact rotR8 .rr (.reg .a)
  | slaB => exact rotR8 .sla (.reg .b)
  | slaC => exact rotR8 .sla (.reg .c)
  | slaD => exact rotR8 .sla (.reg .d)
  | slaE => exact rotR8 .sla (.reg .e)
  | slaH => exact rotR8 .sla (.reg .h)
  | slaL => exact rotR8 .sla (.reg .l)
  | slaMemHl => exact rotR8 .sla .memHl
  | slaA => exact rotR8 .sla (.reg .a)
  | sraB => exact rotR8 .sra (.reg .b)
  | sraC => exact rotR8 .sra (.reg .c)
  | sraD => exact rotR8 .sra (.reg .d)
  | sraE => exact rotR8 .sra (.reg .e)
  | sraH => exact rotR8 .sra (.reg .h)
  | sraL => exact rotR8 .sra (.reg .l)
  | sraMemHl => exact rotR8 .sra .memHl
  | sraA => exact rotR8 .sra (.reg .a)
  | swapB => exact rotR8 .swap (.reg .b)
  | swapC => exact rotR8 .swap (.reg .c)
  | swapD => exact rotR8 .swap (.reg .d)
  | swapE => exact rotR8 .swap (.reg .e)
  | swapH => exact rotR8 .swap (.reg .h)
  | swapL => exact rotR8 .swap (.reg .l)
  | swapMemHl => exact rotR8 .swap .memHl
  | swapA => exact rotR8 .swap (.reg .a)
  | srlB => exact rotR8 .srl (.reg .b)
  | srlC => exact rotR8 .srl (.reg .c)
  | srlD => exact rotR8 .srl (.reg .d)
  | srlE => exact rotR8 .srl (.reg .e)
  | srlH => exact rotR8 .srl (.reg .h)
  | srlL => exact rotR8 .srl (.reg .l)
  | srlMemHl => exact rotR8 .srl .memHl
  | srlA => exact rotR8 .srl (.reg .a)
  | bit0B => exact bitR8 .o0 (.reg .b)
  | bit0C => exact bitR8 .o0 (.reg .c)
  | bit0D => exact bitR8 .o0 (.reg .d)
  | bit0E => exact bitR8 .o0 (.reg .e)
  | bit0H => exact bitR8 .o0 (.reg .h)
  | bit0L => exact bitR8 .o0 (.reg .l)
  | bit0MemHl => exact bitR8 .o0 .memHl
  | bit0A => exact bitR8 .o0 (.reg .a)
  | bit1B => exact bitR8 .o1 (.reg .b)
  | bit1C => exact bitR8 .o1 (.reg .c)
  | bit1D => exact bitR8 .o1 (.reg .d)
  | bit1E => exact bitR8 .o1 (.reg .e)
  | bit1H => exact bitR8 .o1 (.reg .h)
  | bit1L => exact bitR8 .o1 (.reg .l)
  | bit1MemHl => exact bitR8 .o1 .memHl
  | bit1A => exact bitR8 .o1 (.reg .a)
  | bit2B => exact bitR8 .o2 (.reg .b)
  | bit2C => exact bitR8 .o2 (.reg .c)
  | bit2D => exact bitR8 .o2 (.reg .d)
  | bit2E => exact bitR8 .o2 (.reg .e)
  | bit2H => exact bitR8 .o2 (.reg .h)
  | bit2L => exact bitR8 .o2 (.reg .l)
  | bit2MemHl => exact bitR8 .o2 .memHl
  | bit2A => exact bitR8 .o2 (.reg .a)
  | bit3B => exact bitR8 .o3 (.reg .b)
  | bit3C => exact bitR8 .o3 (.reg .c)
  | bit3D => exact bitR8 .o3 (.reg .d)
  | bit3E => exact bitR8 .o3 (.reg .e)
  | bit3H => exact bitR8 .o3 (.reg .h)
  | bit3L => exact bitR8 .o3 (.reg .l)
  | bit3MemHl => exact bitR8 .o3 .memHl
  | bit3A => exact bitR8 .o3 (.reg .a)
  | bit4B => exact bitR8 .o4 (.reg .b)
  | bit4C => exact bitR8 .o4 (.reg .c)
  | bit4D => exact bitR8 .o4 (.reg .d)
  | bit4E => exact bitR8 .o4 (.reg .e)
  | bit4H => exact bitR8 .o4 (.reg .h)
  | bit4L => exact bitR8 .o4 (.reg .l)
  | bit4MemHl => exact bitR8 .o4 .memHl
  | bit4A => exact bitR8 .o4 (.reg .a)
  | bit5B => exact bitR8 .o5 (.reg .b)
  | bit5C => exact bitR8 .o5 (.reg .c)
  | bit5D => exact bitR8 .o5 (.reg .d)
  | bit5E => exact bitR8 .o5 (.reg .e)
  | bit5H => exact bitR8 .o5 (.reg .h)
  | bit5L => exact bitR8 .o5 (.reg .l)
  | bit5MemHl => exact bitR8 .o5 .memHl
  | bit5A => exact bitR8 .o5 (.reg .a)
  | bit6B => exact bitR8 .o6 (.reg .b)
  | bit6C => exact bitR8 .o6 (.reg .c)
  | bit6D => exact bitR8 .o6 (.reg .d)
  | bit6E => exact bitR8 .o6 (.reg .e)
  | bit6H => exact bitR8 .o6 (.reg .h)
  | bit6L => exact bitR8 .o6 (.reg .l)
  | bit6MemHl => exact bitR8 .o6 .memHl
  | bit6A => exact bitR8 .o6 (.reg .a)
  | bit7B => exact bitR8 .o7 (.reg .b)
  | bit7C => exact bitR8 .o7 (.reg .c)
  | bit7D => exact bitR8 .o7 (.reg .d)
  | bit7E => exact bitR8 .o7 (.reg .e)
  | bit7H => exact bitR8 .o7 (.reg .h)
  | bit7L => exact bitR8 .o7 (.reg .l)
  | bit7MemHl => exact bitR8 .o7 .memHl
  | bit7A => exact bitR8 .o7 (.reg .a)
  | res0B => exact resR8 .o0 (.reg .b)
  | res0C => exact resR8 .o0 (.reg .c)
  | res0D => exact resR8 .o0 (.reg .d)
  | res0E => exact resR8 .o0 (.reg .e)
  | res0H => exact resR8 .o0 (.reg .h)
  | res0L => exact resR8 .o0 (.reg .l)
  | res0MemHl => exact resR8 .o0 .memHl
  | res0A => exact resR8 .o0 (.reg .a)
  | res1B => exact resR8 .o1 (.reg .b)
  | res1C => exact resR8 .o1 (.reg .c)
  | res1D => exact resR8 .o1 (.reg .d)
  | res1E => exact resR8 .o1 (.reg .e)
  | res1H => exact resR8 .o1 (.reg .h)
  | res1L => exact resR8 .o1 (.reg .l)
  | res1MemHl => exact resR8 .o1 .memHl
  | res1A => exact resR8 .o1 (.reg .a)
  | res2B => exact resR8 .o2 (.reg .b)
  | res2C => exact resR8 .o2 (.reg .c)
  | res2D => exact resR8 .o2 (.reg .d)
  | res2E => exact resR8 .o2 (.reg .e)
  | res2H => exact resR8 .o2 (.reg .h)
  | res2L => exact resR8 .o2 (.reg .l)
  | res2MemHl => exact resR8 .o2 .memHl
  | res2A => exact resR8 .o2 (.reg .a)
  | res3B => exact resR8 .o3 (.reg .b)
  | res3C => exact resR8 .o3 (.reg .c)
  | res3D => exact resR8 .o3 (.reg .d)
  | res3E => exact resR8 .o3 (.reg .e)
  | res3H => exact resR8 .o3 (.reg .h)
  | res3L => exact resR8 .o3 (.reg .l)
  | res3MemHl => exact resR8 .o3 .memHl
  | res3A => exact resR8 .o3 (.reg .a)
  | res4B => exact resR8 .o4 (.reg .b)
  | res4C => exact resR8 .o4 (.reg .c)
  | res4D => exact resR8 .o4 (.reg .d)
  | res4E => exact resR8 .o4 (.reg .e)
  | res4H => exact resR8 .o4 (.reg .h)
  | res4L => exact resR8 .o4 (.reg .l)
  | res4MemHl => exact resR8 .o4 .memHl
  | res4A => exact resR8 .o4 (.reg .a)
  | res5B => exact resR8 .o5 (.reg .b)
  | res5C => exact resR8 .o5 (.reg .c)
  | res5D => exact resR8 .o5 (.reg .d)
  | res5E => exact resR8 .o5 (.reg .e)
  | res5H => exact resR8 .o5 (.reg .h)
  | res5L => exact resR8 .o5 (.reg .l)
  | res5MemHl => exact resR8 .o5 .memHl
  | res5A => exact resR8 .o5 (.reg .a)
  | res6B => exact resR8 .o6 (.reg .b)
  | res6C => exact resR8 .o6 (.reg .c)
  | res6D => exact resR8 .o6 (.reg .d)
  | res6E => exact resR8 .o6 (.reg .e)
  | res6H => exact resR8 .o6 (.reg .h)
  | res6L => exact resR8 .o6 (.reg .l)
  | res6MemHl => exact resR8 .o6 .memHl
  | res6A => exact resR8 .o6 (.reg .a)
  | res7B => exact resR8 .o7 (.reg .b)
  | res7C => exact resR8 .o7 (.reg .c)
  | res7D => exact resR8 .o7 (.reg .d)
  | res7E => exact resR8 .o7 (.reg .e)
  | res7H => exact resR8 .o7 (.reg .h)
  | res7L => exact resR8 .o7 (.reg .l)
  | res7MemHl => exact resR8 .o7 .memHl
  | res7A => exact resR8 .o7 (.reg .a)
  | set0B => exact setR8 .o0 (.reg .b)
  | set0C => exact setR8 .o0 (.reg .c)
  | set0D => exact setR8 .o0 (.reg .d)
  | set0E => exact setR8 .o0 (.reg .e)
  | set0H => exact setR8 .o0 (.reg .h)
  | set0L => exact setR8 .o0 (.reg .l)
  | set0MemHl => exact setR8 .o0 .memHl
  | set0A => exact setR8 .o0 (.reg .a)
  | set1B => exact setR8 .o1 (.reg .b)
  | set1C => exact setR8 .o1 (.reg .c)
  | set1D => exact setR8 .o1 (.reg .d)
  | set1E => exact setR8 .o1 (.reg .e)
  | set1H => exact setR8 .o1 (.reg .h)
  | set1L => exact setR8 .o1 (.reg .l)
  | set1MemHl => exact setR8 .o1 .memHl
  | set1A => exact setR8 .o1 (.reg .a)
  | set2B => exact setR8 .o2 (.reg .b)
  | set2C => exact setR8 .o2 (.reg .c)
  | set2D => exact setR8 .o2 (.reg .d)
  | set2E => exact setR8 .o2 (.reg .e)
  | set2H => exact setR8 .o2 (.reg .h)
  | set2L => exact setR8 .o2 (.reg .l)
  | set2MemHl => exact setR8 .o2 .memHl
  | set2A => exact setR8 .o2 (.reg .a)
  | set3B => exact setR8 .o3 (.reg .b)
  | set3C => exact setR8 .o3 (.reg .c)
  | set3D => exact setR8 .o3 (.reg .d)
  | set3E => exact setR8 .o3 (.reg .e)
  | set3H => exact setR8 .o3 (.reg .h)
  | set3L => exact setR8 .o3 (.reg .l)
  | set3MemHl => exact setR8 .o3 .memHl
  | set3A => exact setR8 .o3 (.reg .a)
  | set4B => exact setR8 .o4 (.reg .b)
  | set4C => exact setR8 .o4 (.reg .c)
  | set4D => exact setR8 .o4 (.reg .d)
  | set4E => exact setR8 .o4 (.reg .e)
  | set4H => exact setR8 .o4 (.reg .h)
  | set4L => exact setR8 .o4 (.reg .l)
  | set4MemHl => exact setR8 .o4 .memHl
  | set4A => exact setR8 .o4 (.reg .a)
  | set5B => exact setR8 .o5 (.reg .b)
  | set5C => exact setR8 .o5 (.reg .c)
  | set5D => exact setR8 .o5 (.reg .d)
  | set5E => exact setR8 .o5 (.reg .e)
  | set5H => exact setR8 .o5 (.reg .h)
  | set5L => exact setR8 .o5 (.reg .l)
  | set5MemHl => exact setR8 .o5 .memHl
  | set5A => exact setR8 .o5 (.reg .a)
  | set6B => exact setR8 .o6 (.reg .b)
  | set6C => exact setR8 .o6 (.reg .c)
  | set6D => exact setR8 .o6 (.reg .d)
  | set6E => exact setR8 .o6 (.reg .e)
  | set6H => exact setR8 .o6 (.reg .h)
  | set6L => exact setR8 .o6 (.reg .l)
  | set6MemHl => exact setR8 .o6 .memHl
  | set6A => exact setR8 .o6 (.reg .a)
  | set7B => exact setR8 .o7 (.reg .b)
  | set7C => exact setR8 .o7 (.reg .c)
  | set7D => exact setR8 .o7 (.reg .d)
  | set7E => exact setR8 .o7 (.reg .e)
  | set7H => exact setR8 .o7 (.reg .h)
  | set7L => exact setR8 .o7 (.reg .l)
  | set7MemHl => exact setR8 .o7 .memHl
  | set7A => exact setR8 .o7 (.reg .a)

end Sys2Proof
end

