-- ==== Sys2Proof/Laws/Kept.lean ====
section
/-! SUPPORT. Laws/Kept.lean: what no instruction changes, whatever it is. -/

namespace Sys2Proof.Machine

/-- What no instruction changes: the parameters, the pixel buffer, the PPU's internal state, the buttons, the agent's
script; and what every instruction keeps: canonical memory, a legal bank, a boot ROM that has left. -/
structure Kept (s t : State) : Prop where
  cfg : t.cfg = s.cfg
  pb : t.pb = s.pb
  mode : t.ppu.mode = s.ppu.mode
  cnt : t.ppu.cnt = s.ppu.cnt
  line : t.ppu.line = s.ppu.line
  cache : t.ppu.cache = s.ppu.cache
  lycEq : t.ppu.lycEq = s.ppu.lycEq
  buttons : t.buttons = s.buttons
  agent : t.agent = s.agent
  ram_wf : s.ram.wf = true → t.ram.wf = true
  bank_ne : s.romBank ≠ 0 → t.romBank ≠ 0
  unmapped : s.bootMapped = false → t.bootMapped = false

theorem Kept.refl (s : State) : Kept s s := ⟨rfl, rfl, rfl, rfl, rfl, rfl, rfl, rfl, rfl, id, id, id⟩

theorem Kept.trans {s t u : State} (h : Kept s t) (h' : Kept t u) : Kept s u :=
  ⟨h'.1.trans h.1, h'.2.trans h.2, h'.3.trans h.3, h'.4.trans h.4, h'.5.trans h.5, h'.6.trans h.6, h'.7.trans h.7,
    h'.8.trans h.8, h'.9.trans h.9, h'.10 ∘ h.10, h'.11 ∘ h.11, h'.12 ∘ h.12⟩

/-- A change of the CPU and of the count alone. -/
theorem Kept.cpu (s : State) (c : Cpu) (n : Nat) : Kept s { s with cpu := c, cycles := n } :=
  ⟨rfl, rfl, rfl, rfl, rfl, rfl, rfl, rfl, rfl, id, id, id⟩

theorem Kept.setReg (s : State) (r : Reg) (v : Byte) : Kept s (s.setReg r v) := Kept.cpu s _ s.cycles
theorem Kept.setFlags (s : State) (f : Flags) : Kept s (s.setFlags f) := Kept.cpu s _ s.cycles
theorem Kept.setSp (s : State) (w : Word) : Kept s (s.setSp w) := Kept.cpu s _ s.cycles
theorem Kept.setPc (s : State) (w : Word) : Kept s (s.setPc w) := Kept.cpu s _ s.cycles
theorem Kept.setIme (s : State) (v : Bool) : Kept s (s.setIme v) := Kept.cpu s _ s.cycles
theorem Kept.setHalted (s : State) (v : Bool) : Kept s (s.setHalted v) := Kept.cpu s _ s.cycles
theorem Kept.setHl (s : State) (w : Word) : Kept s (s.setHl w) := Kept.cpu s _ s.cycles
theorem Kept.setCycles (s : State) (n : Nat) : Kept s (s.setCycles n) := Kept.cpu s s.cpu n
theorem Kept.setRr (s : State) (r : RR) (w : Word) : Kept s (s.setRr r w) := by cases r <;> exact Kept.cpu s _ s.cycles
theorem Kept.setQq (s : State) (q : QQ) (w : Word) : Kept s (s.setQq q w) := by cases q <;> exact Kept.cpu s _ s.cycles

theorem Kept.onWrite {s t : State} {o : Owner} {a : Word} {v : Byte} {w : Option Byte}
    (h : s.onWrite o a v = .ok (t, w)) : s.bootMapped = false → t.bootMapped = false := by
  cases o <;> simp only [State.onWrite] at h
  case cartRom =>
    split at h
    · cases h; exact id
    · split at h <;> cases h <;> exact id
  case timer => split at h <;> cases h <;> exact id
  case dma =>
    split at h
    · rename_i s' hd
      cases h
      obtain ⟨m, rfl, -, -⟩ := dmaLoop_inv hd
      exact id
    · cases h
  case unmap => cases h; exact fun _ => rfl
  all_goals cases h; exact id

@[simp] theorem State.store_bootMapped (s : State) (o : Owner) (a : Nat) (v : Byte) :
    (s.store o a v).bootMapped = s.bootMapped := by cases o <;> rfl

theorem Kept.busWrite {s t : State} {a : Word} {v : Byte} (h : busWrite s a v = .ok t) : Kept s t := by
  obtain ⟨ho, hm, hb⟩ := busWrite_inv h
  refine ⟨ho.cfg, ho.pb, ho.mode, ho.cnt, ho.line, ho.cache, ho.lycEq, ho.buttons, ho.agent, hm, hb, ?_⟩
  simp only [Machine.busWrite] at h
  split at h
  · cases h
  · split at h
    · cases h
    · rename_i hw; cases h; exact Kept.onWrite hw
    · rename_i hw
      split at h <;> cases h
      · exact Kept.onWrite hw
      · rw [State.store_bootMapped]; exact Kept.onWrite hw

theorem Kept.busWrite16 {s t : State} {a w : Word} (h : busWrite16 s a w = .ok t) : Kept s t := by
  obtain ⟨u, h1, h2⟩ := busWrite16_inv h
  exact (Kept.busWrite h1).trans (Kept.busWrite h2)

theorem Kept.push16 {w : Word} {s t : State} (h : push16 w s = .ok t) : Kept s t := by
  obtain ⟨t1, t2, h1, h2, rfl⟩ := push16_inv h
  exact ((Kept.busWrite h1).trans (Kept.busWrite h2)).trans (.setSp _ _)

theorem Kept.callTo {w : Word} {s t : State} (h : callTo w s = .ok t) : Kept s t := by
  obtain ⟨u, h1, rfl⟩ := callTo_inv h
  exact (Kept.push16 h1).trans (.setPc _ _)

theorem Kept.returnTo {s t : State} (h : returnTo s = .ok t) : Kept s t := by
  obtain ⟨l, b, -, -, rfl⟩ := returnTo_inv h
  exact (Kept.setSp _ _).trans (.setPc _ _)

theorem Kept.writeR8 {s t : State} {r : R8} {v : Byte} (h : writeR8 s r v = .ok t) : Kept s t := by
  rcases r with r | _
  · cases h; exact .setReg _ _ _
  · exact .busWrite h

theorem Kept.move {d q : R8} {s t : State} (h : move d q s = .ok t) : Kept s t := by
  obtain ⟨v, -, hw⟩ := move_inv h
  exact .writeR8 hw

theorem Kept.modifyOperand {op : Byte → Flags → Byte × Flags} {r : R8} {s t : State}
    (h : modifyOperand op r s = .ok t) : Kept s t := by
  obtain ⟨v, u, -, hw, rfl⟩ := modifyOperand_inv h
  exact (Kept.writeR8 hw).trans (.setFlags _ _)

theorem Kept.popTo {q : QQ} {s t : State} (h : popTo q s = .ok t) : Kept s t := by
  obtain ⟨l, b, -, -, rfl⟩ := popTo_inv h
  exact (Kept.setSp _ _).trans (.setQq _ _ _)

theorem Kept.loadA {a : Word} {s t : State} (h : loadA a s = .ok t) : Kept s t := by
  obtain ⟨v, -, rfl⟩ := loadA_inv h
  exact .setReg _ _ _

theorem Kept.aluA (op : AluOp) (v : Byte) (s : State) : Kept s (aluA op v s) := by
  cases op <;> first | exact (Kept.setReg s _ _).trans (.setFlags _ _) | exact .setFlags _ _

/-- An instruction whose body keeps these things keeps them. -/
theorem Kept.finish {n : Nat} {r : Except Fault State} {s t : State} (h : finish n r = .next t)
    (hr : ∀ u, r = .ok u → Kept s u) : Kept s t := by
  obtain ⟨u, hu, rfl⟩ := finish_next_iff.1 h
  exact (hr u hu).trans (.setCycles _ _)

/-- The same of a body that runs when a condition holds. -/
theorem Kept.finishIf {n : Nat} {p : Bool} {r : Except Fault State} {s t : State}
    (h : Machine.finish n (if p then r else .ok s) = .next t) (hr : ∀ u, r = .ok u → Kept s u) : Kept s t := by
  refine Kept.finish h fun u hu => ?_
  split at hu
  · exact hr u hu
  · cases hu; exact .refl s

/-- What every instruction keeps. -/
theorem exec_kept (i : Instr) : ∀ s t : State, exec i s = .next t → Kept s t := by
  revert i
  apply Instr.families (P := fun i => ∀ s t : State, exec i s = .next t → Kept s t)
  case ldR8R8 => intro r q h s t ht; rw [exec_ldR8R8 s h] at ht; exact .finish ht fun _ => .move
  case ldR8D8 => intro r v s t ht; rw [exec_ldR8D8] at ht; exact .finish ht fun _ => .writeR8
  case incR8 => intro r s t ht; rw [exec_incR8] at ht; exact .finish ht fun _ => .modifyOperand
  case decR8 => intro r s t ht; rw [exec_decR8] at ht; exact .finish ht fun _ => .modifyOperand
  case aluR8 =>
    intro op r s t ht; rw [exec_aluR8] at ht
    refine .finish ht fun u hu => ?_
    obtain ⟨v, -, rfl⟩ := withOperand_inv hu
    exact .aluA _ _ _
  case aluD8 => intro op v s t ht; rw [exec_aluD8] at ht; cases ht; exact (Kept.aluA _ _ _).trans (.setCycles _ _)
  case ldRrD16 => intro r w s t ht; rw [exec_ldRrD16] at ht; cases ht; exact (Kept.setRr _ _ _).trans (.setCycles _ _)
  case addHlRr =>
    intro r s t ht; rw [exec_addHlRr] at ht; cases ht
    exact ((Kept.setHl _ _).trans (.setFlags _ _)).trans (.setCycles _ _)
  case incRr => intro r s t ht; rw [exec_incRr] at ht; cases ht; exact (Kept.setRr _ _ _).trans (.setCycles _ _)
  case decRr => intro r s t ht; rw [exec_decRr] at ht; cases ht; exact (Kept.setRr _ _ _).trans (.setCycles _ _)
  case pushQq => intro q s t ht; rw [exec_pushQq] at ht; exact .finish ht fun _ => .push16
  case popQq => intro q s t ht; rw [exec_popQq] at ht; exact .finish ht fun _ => .popTo
  case jrCc =>
    intro cc e s t ht; rw [exec_jrCc] at ht
    exact .finishIf ht fun u hu => by cases hu; exact .setPc _ _
  case jpCc =>
    intro cc e s t ht; rw [exec_jpCc] at ht
    exact .finishIf ht fun u hu => by cases hu; exact .setPc _ _
  case callCc => intro cc e s t ht; rw [exec_callCc] at ht; exact .finishIf ht fun _ => .callTo
  case retCc => intro cc s t ht; rw [exec_retCc] at ht; exact .finishIf ht fun _ => .returnTo
  case rst => intro k s t ht; rw [exec_rst] at ht; exact .finish ht fun _ => .callTo
  case rotR8 => intro op r s t ht; rw [exec_rotR8] at ht; exact .finish ht fun _ => .modifyOperand
  case bitR8 =>
    intro b r s t ht; rw [exec_bitR8] at ht
    refine .finish ht fun u hu => ?_
    obtain ⟨v, -, rfl⟩ := withOperand_inv hu
    exact .setFlags _ _
  case resR8 => intro b r s t ht; rw [exec_resR8] at ht; exact .finish ht fun _ => .modifyOperand
  case setR8 => intro b r s t ht; rw [exec_setR8] at ht; exact .finish ht fun _ => .modifyOperand
  case unrecognized =>
    intro i hi s t ht
    cases i <;> first | exact Bool.noConfusion (show false = true from hi) | (cases ht; exact .setCycles _ _)
  case stop => intro p s t ht; cases ht
  case ldMemA16Sp =>
    intro a s t ht
    exact .finish (n := costOf s.cfg (.ldMemA16Sp a) s.cpu.flags) (r := busWrite16 s a s.cpu.sp) ht fun _ => .busWrite16
  case ldMemBcA =>
    intro s t ht
    exact .finish (n := costOf s.cfg .ldMemBcA s.cpu.flags) (r := storeA s.bc s) ht fun _ => .busWrite
  case ldMemDeA =>
    intro s t ht
    exact .finish (n := costOf s.cfg .ldMemDeA s.cpu.flags) (r := storeA s.de s) ht fun _ => .busWrite
  case ldMemA16A =>
    intro a s t ht
    exact .finish (n := costOf s.cfg (.ldMemA16A a) s.cpu.flags) (r := storeA a s) ht fun _ => .busWrite
  case ldhMemA8A =>
    intro a s t ht
    exact .finish (n := costOf s.cfg (.ldhMemA8A a) s.cpu.flags) (r := storeA (highPage a) s) ht fun _ => .busWrite
  case ldMemCA =>
    intro s t ht
    exact .finish (n := costOf s.cfg .ldMemCA s.cpu.flags) (r := storeA (highPage s.cpu.c) s) ht fun _ => .busWrite
  case ldMemHlIncA =>
    intro s t ht
    refine .finish (n := costOf s.cfg .ldMemHlIncA s.cpu.flags) (r := thenSet (storeA s.hl s) (stepHl 1)) ht fun u hu => ?_
    obtain ⟨w, hw, rfl⟩ := thenSet_inv hu
    exact (Kept.busWrite hw).trans (.setHl _ _)
  case ldMemHlDecA =>
    intro s t ht
    refine .finish (n := costOf s.cfg .ldMemHlDecA s.cpu.flags) (r := thenSet (storeA s.hl s) (stepHl 0xFFFF)) ht fun u hu => ?_
    obtain ⟨w, hw, rfl⟩ := thenSet_inv hu
    exact (Kept.busWrite hw).trans (.setHl _ _)
  case ldAMemBc =>
    intro s t ht
    exact .finish (n := costOf s.cfg .ldAMemBc s.cpu.flags) (r := loadA s.bc s) ht fun _ => .loadA
  case ldAMemDe =>
    intro s t ht
    exact .finish (n := costOf s.cfg .ldAMemDe s.cpu.flags) (r := loadA s.de s) ht fun _ => .loadA
  case ldAMemA16 =>
    intro a s t ht
    exact .finish (n := costOf s.cfg (.ldAMemA16 a) s.cpu.flags) (r := loadA a s) ht fun _ => .loadA
  case ldhAMemA8 =>
    intro a s t ht
    exact .finish (n := costOf s.cfg (.ldhAMemA8 a) s.cpu.flags) (r := loadA (highPage a) s) ht fun _ => .loadA
  case ldAMemC =>
    intro s t ht
    exact .finish (n := costOf s.cfg .ldAMemC s.cpu.flags) (r := loadA (highPage s.cpu.c) s) ht fun _ => .loadA
  case ldAMemHlInc =>
    intro s t ht
    refine .finish (n := costOf s.cfg .ldAMemHlInc s.cpu.flags) (r := thenSet (loadA s.hl s) (stepHl 1)) ht fun u hu => ?_
    obtain ⟨w, hw, rfl⟩ := thenSet_inv hu
    exact (Kept.loadA hw).trans (.setHl _ _)
  case ldAMemHlDec =>
    intro s t ht
    refine .finish (n := costOf s.cfg .ldAMemHlDec s.cpu.flags) (r := thenSet (loadA s.hl s) (stepHl 0xFFFF)) ht fun u hu => ?_
    obtain ⟨w, hw, rfl⟩ := thenSet_inv hu
    exact (Kept.loadA hw).trans (.setHl _ _)
  case ret => intro s t ht; exact .finish (n := costOf s.cfg .ret s.cpu.flags) (r := returnTo s) ht fun _ => .returnTo
  case reti =>
    intro s t ht
    refine .finish (n := costOf s.cfg .reti s.cpu.flags) (r := returnFromInterrupt s) ht fun u hu => ?_
    obtain ⟨w, hw, rfl⟩ := returnFromInterrupt_inv hu
    exact (Kept.returnTo hw).trans (.setIme _ _)
  case callA16 =>
    intro a s t ht
    exact .finish (n := costOf s.cfg (.callA16 a) s.cpu.flags) (r := callTo a s) ht fun _ => .callTo
  all_goals intros; rename_i s t ht; cases ht; exact .cpu s _ _

/-! ## The end of an instruction and the CPU's step -/

theorem Kept.takeInterrupt {s t : State} (h : takeInterrupt s = .ok t) : Kept s t := by
  obtain ⟨u, src, hu, -, rfl⟩ := takeInterrupt_inv h
  have hk : Kept s u := (Kept.setIme s false).trans (.push16 hu)
  exact ⟨hk.1, hk.2, hk.3, hk.4, hk.5, hk.6, hk.7, hk.8, hk.9, hk.10, hk.11, hk.12⟩

theorem Kept.endOfInstruction {r : Result} {t : State} (h : endOfInstruction r = .next t) :
    ∃ s, r = .next s ∧ Kept s t := by
  obtain ⟨s, rfl, hs⟩ := endOfInstruction_inv h
  refine ⟨s, rfl, ?_⟩
  have hw : Kept s (wakeAfter s) := by rw [wakeAfter_eq]; exact .setHalted _ _
  rcases serviceCheck_inv hs with ⟨-, -, ht⟩ | ⟨-, rfl⟩
  · exact hw.trans (.takeInterrupt ht)
  · exact hw

/-- What `CPU.step()` keeps. -/
theorem cpuStep_kept {s t : State} (h : cpuStep s = .next t) : Kept s t := by
  unfold cpuStep at h
  split at h
  · cases h; exact .setCycles _ _
  · split at h
    · cases h
    · rename_i i s1 hf
      obtain ⟨u, hu, hk⟩ := Kept.endOfInstruction h
      have h1 : Kept s s1 := by
        unfold fetchDecode at hf
        split at hf <;> cases hf
        exact (Kept.setHalted _ _).trans (.setPc _ _)
      exact (h1.trans (exec_kept i s1 u hu)).trans hk

end Sys2Proof.Machine
end

