-- ==== Sys2Proof/Laws/PerInstr.lean ====
section
/-! SUPPORT. Laws/PerInstr.lean: what is said of each instruction as syntax, one lemma per constructor. -/

namespace Sys2Proof.Laws

/-- The encoding has the length its own first byte announces (rules R90, R91, R102). -/
def EncodedLength.Statement (i : Instr) : Prop :=
  (encode i).length = (lengthOf ((encode i).headD 0)).toNat

/-- From the bytes of the encoding. -/
theorem encodedLength_of_bytes {i : Instr} (op : Byte) (bs : List Byte) (h : encode i = op :: bs)
    (hl : (lengthOf op).toNat = bs.length + 1) : EncodedLength.Statement i := by
  simp only [EncodedLength.Statement, h, List.headD_cons, hl, List.length_cons]

theorem EncodedLength.nop : EncodedLength.Statement .nop := encodedLength_of_bytes 0x00 [] rfl rfl
theorem EncodedLength.ldBcD16 (v : Word) : EncodedLength.Statement (.ldBcD16 v) := encodedLength_of_bytes 0x01 [_, _] rfl rfl
theorem EncodedLength.ldMemBcA : EncodedLength.Statement .ldMemBcA := encodedLength_of_bytes 0x02 [] rfl rfl
theorem EncodedLength.incBc : EncodedLength.Statement .incBc := encodedLength_of_bytes 0x03 [] rfl rfl
theorem EncodedLength.incB : EncodedLength.Statement .incB := encodedLength_of_bytes 0x04 [] rfl rfl
theorem EncodedLength.decB : EncodedLength.Statement .decB := encodedLength_of_bytes 0x05 [] rfl rfl
theorem EncodedLength.ldBD8 (v : Byte) : EncodedLength.Statement (.ldBD8 v) := encodedLength_of_bytes 0x06 [_] rfl rfl
theorem EncodedLength.rlca : EncodedLength.Statement .rlca := encodedLength_of_bytes 0x07 [] rfl rfl
theorem EncodedLength.ldMemA16Sp (v : Word) : EncodedLength.Statement (.ldMemA16Sp v) := encodedLength_of_bytes 0x08 [_, _] rfl rfl
theorem EncodedLength.addHlBc : EncodedLength.Statement .addHlBc := encodedLength_of_bytes 0x09 [] rfl rfl
theorem EncodedLength.ldAMemBc : EncodedLength.Statement .ldAMemBc := encodedLength_of_bytes 0x0A [] rfl rfl
theorem EncodedLength.decBc : EncodedLength.Statement .decBc := encodedLength_of_bytes 0x0B [] rfl rfl
theorem EncodedLength.incC : EncodedLength.Statement .incC := encodedLength_of_bytes 0x0C [] rfl rfl
theorem EncodedLength.decC : EncodedLength.Statement .decC := encodedLength_of_bytes 0x0D [] rfl rfl
theorem EncodedLength.ldCD8 (v : Byte) : EncodedLength.Statement (.ldCD8 v) := encodedLength_of_bytes 0x0E [_] rfl rfl
theorem EncodedLength.rrca : EncodedLength.Statement .rrca := encodedLength_of_bytes 0x0F [] rfl rfl
theorem EncodedLength.stop (v : Byte) : EncodedLength.Statement (.stop v) := encodedLength_of_bytes 0x10 [_] rfl rfl
theorem EncodedLength.ldDeD16 (v : Word) : EncodedLength.Statement (.ldDeD16 v) := encodedLength_of_bytes 0x11 [_, _] rfl rfl
theorem EncodedLength.ldMemDeA : EncodedLength.Statement .ldMemDeA := encodedLength_of_bytes 0x12 [] rfl rfl
theorem EncodedLength.incDe : EncodedLength.Statement .incDe := encodedLength_of_bytes 0x13 [] rfl rfl
theorem EncodedLength.incD : EncodedLength.Statement .incD := encodedLength_of_bytes 0x14 [] rfl rfl
theorem EncodedLength.decD : EncodedLength.Statement .decD := encodedLength_of_bytes 0x15 [] rfl rfl
theorem EncodedLength.ldDD8 (v : Byte) : EncodedLength.Statement (.ldDD8 v) := encodedLength_of_bytes 0x16 [_] rfl rfl
theorem EncodedLength.rla : EncodedLength.Statement .rla := encodedLength_of_bytes 0x17 [] rfl rfl
theorem EncodedLength.jrE8 (v : Byte) : EncodedLength.Statement (.jrE8 v) := encodedLength_of_bytes 0x18 [_] rfl rfl
theorem EncodedLength.addHlDe : EncodedLength.Statement .addHlDe := encodedLength_of_bytes 0x19 [] rfl rfl
theorem EncodedLength.ldAMemDe : EncodedLength.Statement .ldAMemDe := encodedLength_of_bytes 0x1A [] rfl rfl
theorem EncodedLength.decDe : EncodedLength.Statement .decDe := encodedLength_of_bytes 0x1B [] rfl rfl
theorem EncodedLength.incE : EncodedLength.Statement .incE := encodedLength_of_bytes 0x1C [] rfl rfl
theorem EncodedLength.decE : EncodedLength.Statement .decE := encodedLength_of_bytes 0x1D [] rfl rfl
theorem EncodedLength.ldED8 (v : Byte) : EncodedLength.Statement (.ldED8 v) := encodedLength_of_bytes 0x1E [_] rfl rfl
theorem EncodedLength.rra : EncodedLength.Statement .rra := encodedLength_of_bytes 0x1F [] rfl rfl
theorem EncodedLength.jrNzE8 (v : Byte) : EncodedLength.Statement (.jrNzE8 v) := encodedLength_of_bytes 0x20 [_] rfl rfl
theorem EncodedLength.ldHlD16 (v : Word) : EncodedLength.Statement (.ldHlD16 v) := encodedLength_of_bytes 0x21 [_, _] rfl rfl
theorem EncodedLength.ldMemHlIncA : EncodedLength.Statement .ldMemHlIncA := encodedLength_of_bytes 0x22 [] rfl rfl
theorem EncodedLength.incHl : EncodedLength.Statement .incHl := encodedLength_of_bytes 0x23 [] rfl rfl
theorem EncodedLength.incH : EncodedLength.Statement .incH := encodedLength_of_bytes 0x24 [] rfl rfl
theorem EncodedLength.decH : EncodedLength.Statement .decH := encodedLength_of_bytes 0x25 [] rfl rfl
theorem EncodedLength.ldHD8 (v : Byte) : EncodedLength.Statement (.ldHD8 v) := encodedLength_of_bytes 0x26 [_] rfl rfl
theorem EncodedLength.daa : EncodedLength.Statement .daa := encodedLength_of_bytes 0x27 [] rfl rfl
theorem EncodedLength.jrZE8 (v : Byte) : EncodedLength.Statement (.jrZE8 v) := encodedLength_of_bytes 0x28 [_] rfl rfl
theorem EncodedLength.addHlHl : EncodedLength.Statement .addHlHl := encodedLength_of_bytes 0x29 [] rfl rfl
theorem EncodedLength.ldAMemHlInc : EncodedLength.Statement .ldAMemHlInc := encodedLength_of_bytes 0x2A [] rfl rfl
theorem EncodedLength.decHl : EncodedLength.Statement .decHl := encodedLength_of_bytes 0x2B [] rfl rfl
theorem EncodedLength.incL : EncodedLength.Statement .incL := encodedLength_of_bytes 0x2C [] rfl rfl
theorem EncodedLength.decL : EncodedLength.Statement .decL := encodedLength_of_bytes 0x2D [] rfl rfl
theorem EncodedLength.ldLD8 (v : Byte) : EncodedLength.Statement (.ldLD8 v) := encodedLength_of_bytes 0x2E [_] rfl rfl
theorem EncodedLength.cpl : EncodedLength.Statement .cpl := encodedLength_of_bytes 0x2F [] rfl rfl
theorem EncodedLength.jrNcE8 (v : Byte) : EncodedLength.Statement (.jrNcE8 v) := encodedLength_of_bytes 0x30 [_] rfl rfl
theorem EncodedLength.ldSpD16 (v : Word) : EncodedLength.Statement (.ldSpD16 v) := encodedLength_of_bytes 0x31 [_, _] rfl rfl
theorem EncodedLength.ldMemHlDecA : EncodedLength.Statement .ldMemHlDecA := encodedLength_of_bytes 0x32 [] rfl rfl
theorem EncodedLength.incSp : EncodedLength.Statement .incSp := encodedLength_of_bytes 0x33 [] rfl rfl
theorem EncodedLength.incMemHl : EncodedLength.Statement .incMemHl := encodedLength_of_bytes 0x34 [] rfl rfl
theorem EncodedLength.decMemHl : EncodedLength.Statement .decMemHl := encodedLength_of_bytes 0x35 [] rfl rfl
theorem EncodedLength.ldMemHlD8 (v : Byte) : EncodedLength.Statement (.ldMemHlD8 v) := encodedLength_of_bytes 0x36 [_] rfl rfl
theorem EncodedLength.scf : EncodedLength.Statement .scf := encodedLength_of_bytes 0x37 [] rfl rfl
theorem EncodedLength.jrCE8 (v : Byte) : EncodedLength.Statement (.jrCE8 v) := encodedLength_of_bytes 0x38 [_] rfl rfl
theorem EncodedLength.addHlSp : EncodedLength.Statement .addHlSp := encodedLength_of_bytes 0x39 [] rfl rfl
theorem EncodedLength.ldAMemHlDec : EncodedLength.Statement .ldAMemHlDec := encodedLength_of_bytes 0x3A [] rfl rfl
theorem EncodedLength.decSp : EncodedLength.Statement .decSp := encodedLength_of_bytes 0x3B [] rfl rfl
theorem EncodedLength.incA : EncodedLength.Statement .incA := encodedLength_of_bytes 0x3C [] rfl rfl
theorem EncodedLength.decA : EncodedLength.Statement .decA := encodedLength_of_bytes 0x3D [] rfl rfl
theorem EncodedLength.ldAD8 (v : Byte) : EncodedLength.Statement (.ldAD8 v) := encodedLength_of_bytes 0x3E [_] rfl rfl
theorem EncodedLength.ccf : EncodedLength.Statement .ccf := encodedLength_of_bytes 0x3F [] rfl rfl
theorem EncodedLength.ldBB : EncodedLength.Statement .ldBB := encodedLength_of_bytes 0x40 [] rfl rfl
theorem EncodedLength.ldBC : EncodedLength.Statement .ldBC := encodedLength_of_bytes 0x41 [] rfl rfl
theorem EncodedLength.ldBD : EncodedLength.Statement .ldBD := encodedLength_of_bytes 0x42 [] rfl rfl
theorem EncodedLength.ldBE : EncodedLength.Statement .ldBE := encodedLength_of_bytes 0x43 [] rfl rfl
theorem EncodedLength.ldBH : EncodedLength.Statement .ldBH := encodedLength_of_bytes 0x44 [] rfl rfl
theorem EncodedLength.ldBL : EncodedLength.Statement .ldBL := encodedLength_of_bytes 0x45 [] rfl rfl
theorem EncodedLength.ldBMemHl : EncodedLength.Statement .ldBMemHl := encodedLength_of_bytes 0x46 [] rfl rfl
theorem EncodedLength.ldBA : EncodedLength.Statement .ldBA := encodedLength_of_bytes 0x47 [] rfl rfl
theorem EncodedLength.ldCB : EncodedLength.Statement .ldCB := encodedLength_of_bytes 0x48 [] rfl rfl
theorem EncodedLength.ldCC : EncodedLength.Statement .ldCC := encodedLength_of_bytes 0x49 [] rfl rfl
theorem EncodedLength.ldCD : EncodedLength.Statement .ldCD := encodedLength_of_bytes 0x4A [] rfl rfl
theorem EncodedLength.ldCE : EncodedLength.Statement .ldCE := encodedLength_of_bytes 0x4B [] rfl rfl
theorem EncodedLength.ldCH : EncodedLength.Statement .ldCH := encodedLength_of_bytes 0x4C [] rfl rfl
theorem EncodedLength.ldCL : EncodedLength.Statement .ldCL := encodedLength_of_bytes 0x4D [] rfl rfl
theorem EncodedLength.ldCMemHl : EncodedLength.Statement .ldCMemHl := encodedLength_of_bytes 0x4E [] rfl rfl
theorem EncodedLength.ldCA : EncodedLength.Statement .ldCA := encodedLength_of_bytes 0x4F [] rfl rfl
theorem EncodedLength.ldDB : EncodedLength.Statement .ldDB := encodedLength_of_bytes 0x50 [] rfl rfl
theorem EncodedLength.ldDC : EncodedLength.Statement .ldDC := encodedLength_of_bytes 0x51 [] rfl rfl
theorem EncodedLength.ldDD : EncodedLength.Statement .ldDD := encodedLength_of_bytes 0x52 [] rfl rfl
theorem EncodedLength.ldDE : EncodedLength.Statement .ldDE := encodedLength_of_bytes 0x53 [] rfl rfl
theorem EncodedLength.ldDH : EncodedLength.Statement .ldDH := encodedLength_of_bytes 0x54 [] rfl rfl
theorem EncodedLength.ldDL : EncodedLength.Statement .ldDL := encodedLength_of_bytes 0x55 [] rfl rfl
theorem EncodedLength.ldDMemHl : EncodedLength.Statement .ldDMemHl := encodedLength_of_bytes 0x56 [] rfl rfl
theorem EncodedLength.ldDA : EncodedLength.Statement .ldDA := encodedLength_of_bytes 0x57 [] rfl rfl
theorem EncodedLength.ldEB : EncodedLength.Statement .ldEB := encodedLength_of_bytes 0x58 [] rfl rfl
theorem EncodedLength.ldEC : EncodedLength.Statement .ldEC := encodedLength_of_bytes 0x59 [] rfl rfl
theorem EncodedLength.ldED : EncodedLength.Statement .ldED := encodedLength_of_bytes 0x5A [] rfl rfl
theorem EncodedLength.ldEE : EncodedLength.Statement .ldEE := encodedLength_of_bytes 0x5B [] rfl rfl
theorem EncodedLength.ldEH : EncodedLength.Statement .ldEH := encodedLength_of_bytes 0x5C [] rfl rfl
theorem EncodedLength.ldEL : EncodedLength.Statement .ldEL := encodedLength_of_bytes 0x5D [] rfl rfl
theorem EncodedLength.ldEMemHl : EncodedLength.Statement .ldEMemHl := encodedLength_of_bytes 0x5E [] rfl rfl
theorem EncodedLength.ldEA : EncodedLength.Statement .ldEA := encodedLength_of_bytes 0x5F [] rfl rfl
theorem EncodedLength.ldHB : EncodedLength.Statement .ldHB := encodedLength_of_bytes 0x60 [] rfl rfl
theorem EncodedLength.ldHC : EncodedLength.Statement .ldHC := encodedLength_of_bytes 0x61 [] rfl rfl
theorem EncodedLength.ldHD : EncodedLength.Statement .ldHD := encodedLength_of_bytes 0x62 [] rfl rfl
theorem EncodedLength.ldHE : EncodedLength.Statement .ldHE := encodedLength_of_bytes 0x63 [] rfl rfl
theorem EncodedLength.ldHH : EncodedLength.Statement .ldHH := encodedLength_of_bytes 0x64 [] rfl rfl
theorem EncodedLength.ldHL : EncodedLength.Statement .ldHL := encodedLength_of_bytes 0x65 [] rfl rfl
theorem EncodedLength.ldHMemHl : EncodedLength.Statement .ldHMemHl := encodedLength_of_bytes 0x66 [] rfl rfl
theorem EncodedLength.ldHA : EncodedLength.Statement .ldHA := encodedLength_of_bytes 0x67 [] rfl rfl
theorem EncodedLength.ldLB : EncodedLength.Statement .ldLB := encodedLength_of_bytes 0x68 [] rfl rfl
theorem EncodedLength.ldLC : EncodedLength.Statement .ldLC := encodedLength_of_bytes 0x69 [] rfl rfl
theorem EncodedLength.ldLD : EncodedLength.Statement .ldLD := encodedLength_of_bytes 0x6A [] rfl rfl
theorem EncodedLength.ldLE : EncodedLength.Statement .ldLE := encodedLength_of_bytes 0x6B [] rfl rfl
theorem EncodedLength.ldLH : EncodedLength.Statement .ldLH := encodedLength_of_bytes 0x6C [] rfl rfl
theorem EncodedLength.ldLL : EncodedLength.Statement .ldLL := encodedLength_of_bytes 0x6D [] rfl rfl
theorem EncodedLength.ldLMemHl : EncodedLength.Statement .ldLMemHl := encodedLength_of_bytes 0x6E [] rfl rfl
theorem EncodedLength.ldLA : EncodedLength.Statement .ldLA := encodedLength_of_bytes 0x6F [] rfl rfl
theorem EncodedLength.ldMemHlB : EncodedLength.Statement .ldMemHlB := encodedLength_of_bytes 0x70 [] rfl rfl
theorem EncodedLength.ldMemHlC : EncodedLength.Statement .ldMemHlC := encodedLength_of_bytes 0x71 [] rfl rfl
theorem EncodedLength.ldMemHlD : EncodedLength.Statement .ldMemHlD := encodedLength_of_bytes 0x72 [] rfl rfl
theorem EncodedLength.ldMemHlE : EncodedLength.Statement .ldMemHlE := encodedLength_of_bytes 0x73 [] rfl rfl
theorem EncodedLength.ldMemHlH : EncodedLength.Statement .ldMemHlH := encodedLength_of_bytes 0x74 [] rfl rfl
theorem EncodedLength.ldMemHlL : EncodedLength.Statement .ldMemHlL := encodedLength_of_bytes 0x75 [] rfl rfl
theorem EncodedLength.halt : EncodedLength.Statement .halt := encodedLength_of_bytes 0x76 [] rfl rfl
theorem EncodedLength.ldMemHlA : EncodedLength.Statement .ldMemHlA := encodedLength_of_bytes 0x77 [] rfl rfl
theorem EncodedLength.ldAB : EncodedLength.Statement .ldAB := encodedLength_of_bytes 0x78 [] rfl rfl
theorem EncodedLength.ldAC : EncodedLength.Statement .ldAC := encodedLength_of_bytes 0x79 [] rfl rfl
theorem EncodedLength.ldAD : EncodedLength.Statement .ldAD := encodedLength_of_bytes 0x7A [] rfl rfl
theorem EncodedLength.ldAE : EncodedLength.Statement .ldAE := encodedLength_of_bytes 0x7B [] rfl rfl
theorem EncodedLength.ldAH : EncodedLength.Statement .ldAH := encodedLength_of_bytes 0x7C [] rfl rfl
theorem EncodedLength.ldAL : EncodedLength.Statement .ldAL := encodedLength_of_bytes 0x7D [] rfl rfl
theorem EncodedLength.ldAMemHl : EncodedLength.Statement .ldAMemHl := encodedLength_of_bytes 0x7E [] rfl rfl
theorem EncodedLength.ldAA : EncodedLength.Statement .ldAA := encodedLength_of_bytes 0x7F [] rfl rfl
theorem EncodedLength.addAB : EncodedLength.Statement .addAB := encodedLength_of_bytes 0x80 [] rfl rfl
theorem EncodedLength.addAC : EncodedLength.Statement .addAC := encodedLength_of_bytes 0x81 [] rfl rfl
theorem EncodedLength.addAD : EncodedLength.Statement .addAD := encodedLength_of_bytes 0x82 [] rfl rfl
theorem EncodedLength.addAE : EncodedLength.Statement .addAE := encodedLength_of_bytes 0x83 [] rfl rfl
theorem EncodedLength.addAH : EncodedLength.Statement .addAH := encodedLength_of_bytes 0x84 [] rfl rfl
theorem EncodedLength.addAL : EncodedLength.Statement .addAL := encodedLength_of_bytes 0x85 [] rfl rfl
theorem EncodedLength.addAMemHl : EncodedLength.Statement .addAMemHl := encodedLength_of_bytes 0x86 [] rfl rfl
theorem EncodedLength.addAA : EncodedLength.Statement .addAA := encodedLength_of_bytes 0x87 [] rfl rfl
theorem EncodedLength.adcAB : EncodedLength.Statement .adcAB := encodedLength_of_bytes 0x88 [] rfl rfl
theorem EncodedLength.adcAC : EncodedLength.Statement .adcAC := encodedLength_of_bytes 0x89 [] rfl rfl
theorem EncodedLength.adcAD : EncodedLength.Statement .adcAD := encodedLength_of_bytes 0x8A [] rfl rfl
theorem EncodedLength.adcAE : EncodedLength.Statement .adcAE := encodedLength_of_bytes 0x8B [] rfl rfl
theorem EncodedLength.adcAH : EncodedLength.Statement .adcAH := encodedLength_of_bytes 0x8C [] rfl rfl
theorem EncodedLength.adcAL : EncodedLength.Statement .adcAL := encodedLength_of_bytes 0x8D [] rfl rfl
theorem EncodedLength.adcAMemHl : EncodedLength.Statement .adcAMemHl := encodedLength_of_bytes 0x8E [] rfl rfl
theorem EncodedLength.adcAA : EncodedLength.Statement .adcAA := encodedLength_of_bytes 0x8F [] rfl rfl
theorem EncodedLength.subB : EncodedLength.Statement .subB := encodedLength_of_bytes 0x90 [] rfl rfl
theorem EncodedLength.subC : EncodedLength.Statement .subC := encodedLength_of_bytes 0x91 [] rfl rfl
theorem EncodedLength.subD : EncodedLength.Statement .subD := encodedLength_of_bytes 0x92 [] rfl rfl
theorem EncodedLength.subE : EncodedLength.Statement .subE := encodedLength_of_bytes 0x93 [] rfl rfl
theorem EncodedLength.subH : EncodedLength.Statement .subH := encodedLength_of_bytes 0x94 [] rfl rfl
theorem EncodedLength.subL : EncodedLength.Statement .subL := encodedLength_of_bytes 0x95 [] rfl rfl
theorem EncodedLength.subMemHl : EncodedLength.Statement .subMemHl := encodedLength_of_bytes 0x96 [] rfl rfl
theorem EncodedLength.subA : EncodedLength.Statement .subA := encodedLength_of_bytes 0x97 [] rfl rfl
theorem EncodedLength.sbcAB : EncodedLength.Statement .sbcAB := encodedLength_of_bytes 0x98 [] rfl rfl
theorem EncodedLength.sbcAC : EncodedLength.Statement .sbcAC := encodedLength_of_bytes 0x99 [] rfl rfl
theorem EncodedLength.sbcAD : EncodedLength.Statement .sbcAD := encodedLength_of_bytes 0x9A [] rfl rfl
theorem EncodedLength.sbcAE : EncodedLength.Statement .sbcAE := encodedLength_of_bytes 0x9B [] rfl rfl
theorem EncodedLength.sbcAH : EncodedLength.Statement .sbcAH := encodedLength_of_bytes 0x9C [] rfl rfl
theorem EncodedLength.sbcAL : EncodedLength.Statement .sbcAL := encodedLength_of_bytes 0x9D [] rfl rfl
theorem EncodedLength.sbcAMemHl : EncodedLength.Statement .sbcAMemHl := encodedLength_of_bytes 0x9E [] rfl rfl
theorem EncodedLength.sbcAA : EncodedLength.Statement .sbcAA := encodedLength_of_bytes 0x9F [] rfl rfl
theorem EncodedLength.andB : EncodedLength.Statement .andB := encodedLength_of_bytes 0xA0 [] rfl rfl
theorem EncodedLength.andC : EncodedLength.Statement .andC := encodedLength_of_bytes 0xA1 [] rfl rfl
theorem EncodedLength.andD : EncodedLength.Statement .andD := encodedLength_of_bytes 0xA2 [] rfl rfl
theorem EncodedLength.andE : EncodedLength.Statement .andE := encodedLength_of_bytes 0xA3 [] rfl rfl
theorem EncodedLength.andH : EncodedLength.Statement .andH := encodedLength_of_bytes 0xA4 [] rfl rfl
theorem EncodedLength.andL : EncodedLength.Statement .andL := encodedLength_of_bytes 0xA5 [] rfl rfl
theorem EncodedLength.andMemHl : EncodedLength.Statement .andMemHl := encodedLength_of_bytes 0xA6 [] rfl rfl
theorem EncodedLength.andA : EncodedLength.Statement .andA := encodedLength_of_bytes 0xA7 [] rfl rfl
theorem EncodedLength.xorB : EncodedLength.Statement .xorB := encodedLength_of_bytes 0xA8 [] rfl rfl
theorem EncodedLength.xorC : EncodedLength.Statement .xorC := encodedLength_of_bytes 0xA9 [] rfl rfl
theorem EncodedLength.xorD : EncodedLength.Statement .xorD := encodedLength_of_bytes 0xAA [] rfl rfl
theorem EncodedLength.xorE : EncodedLength.Statement .xorE := encodedLength_of_bytes 0xAB [] rfl rfl
theorem EncodedLength.xorH : EncodedLength.Statement .xorH := encodedLength_of_bytes 0xAC [] rfl rfl
theorem EncodedLength.xorL : EncodedLength.Statement .xorL := encodedLength_of_bytes 0xAD [] rfl rfl
theorem EncodedLength.xorMemHl : EncodedLength.Statement .xorMemHl := encodedLength_of_bytes 0xAE [] rfl rfl
theorem EncodedLength.xorA : EncodedLength.Statement .xorA := encodedLength_of_bytes 0xAF [] rfl rfl
theorem EncodedLength.orB : EncodedLength.Statement .orB := encodedLength_of_bytes 0xB0 [] rfl rfl
theorem EncodedLength.orC : EncodedLength.Statement .orC := encodedLength_of_bytes 0xB1 [] rfl rfl
theorem EncodedLength.orD : EncodedLength.Statement .orD := encodedLength_of_bytes 0xB2 [] rfl rfl
theorem EncodedLength.orE : EncodedLength.Statement .orE := encodedLength_of_bytes 0xB3 [] rfl rfl
theorem EncodedLength.orH : EncodedLength.Statement .orH := encodedLength_of_bytes 0xB4 [] rfl rfl
theorem EncodedLength.orL : EncodedLength.Statement .orL := encodedLength_of_bytes 0xB5 [] rfl rfl
theorem EncodedLength.orMemHl : EncodedLength.Statement .orMemHl := encodedLength_of_bytes 0xB6 [] rfl rfl
theorem EncodedLength.orA : EncodedLength.Statement .orA := encodedLength_of_bytes 0xB7 [] rfl rfl
theorem EncodedLength.cpB : EncodedLength.Statement .cpB := encodedLength_of_bytes 0xB8 [] rfl rfl
theorem EncodedLength.cpC : EncodedLength.Statement .cpC := encodedLength_of_bytes 0xB9 [] rfl rfl
theorem EncodedLength.cpD : EncodedLength.Statement .cpD := encodedLength_of_bytes 0xBA [] rfl rfl
theorem EncodedLength.cpE : EncodedLength.Statement .cpE := encodedLength_of_bytes 0xBB [] rfl rfl
theorem EncodedLength.cpH : EncodedLength.Statement .cpH := encodedLength_of_bytes 0xBC [] rfl rfl
theorem EncodedLength.cpL : EncodedLength.Statement .cpL := encodedLength_of_bytes 0xBD [] rfl rfl
theorem EncodedLength.cpMemHl : EncodedLength.Statement .cpMemHl := encodedLength_of_bytes 0xBE [] rfl rfl
theorem EncodedLength.cpA : EncodedLength.Statement .cpA := encodedLength_of_bytes 0xBF [] rfl rfl
theorem EncodedLength.retNz : EncodedLength.Statement .retNz := encodedLength_of_bytes 0xC0 [] rfl rfl
theorem EncodedLength.popBc : EncodedLength.Statement .popBc := encodedLength_of_bytes 0xC1 [] rfl rfl
theorem EncodedLength.jpNzA16 (v : Word) : EncodedLength.Statement (.jpNzA16 v) := encodedLength_of_bytes 0xC2 [_, _] rfl rfl
theorem EncodedLength.jpA16 (v : Word) : EncodedLength.Statement (.jpA16 v) := encodedLength_of_bytes 0xC3 [_, _] rfl rfl
theorem EncodedLength.callNzA16 (v : Word) : EncodedLength.Statement (.callNzA16 v) := encodedLength_of_bytes 0xC4 [_, _] rfl rfl
theorem EncodedLength.pushBc : EncodedLength.Statement .pushBc := encodedLength_of_bytes 0xC5 [] rfl rfl
theorem EncodedLength.addAD8 (v : Byte) : EncodedLength.Statement (.addAD8 v) := encodedLength_of_bytes 0xC6 [_] rfl rfl
theorem EncodedLength.rst00 : EncodedLength.Statement .rst00 := encodedLength_of_bytes 0xC7 [] rfl rfl
theorem EncodedLength.retZ : EncodedLength.Statement .retZ := encodedLength_of_bytes 0xC8 [] rfl rfl
theorem EncodedLength.ret : EncodedLength.Statement .ret := encodedLength_of_bytes 0xC9 [] rfl rfl
theorem EncodedLength.jpZA16 (v : Word) : EncodedLength.Statement (.jpZA16 v) := encodedLength_of_bytes 0xCA [_, _] rfl rfl
theorem EncodedLength.callZA16 (v : Word) : EncodedLength.Statement (.callZA16 v) := encodedLength_of_bytes 0xCC [_, _] rfl rfl
theorem EncodedLength.callA16 (v : Word) : EncodedLength.Statement (.callA16 v) := encodedLength_of_bytes 0xCD [_, _] rfl rfl
theorem EncodedLength.adcAD8 (v : Byte) : EncodedLength.Statement (.adcAD8 v) := encodedLength_of_bytes 0xCE [_] rfl rfl
theorem EncodedLength.rst08 : EncodedLength.Statement .rst08 := encodedLength_of_bytes 0xCF [] rfl rfl
theorem EncodedLength.retNc : EncodedLength.Statement .retNc := encodedLength_of_bytes 0xD0 [] rfl rfl
theorem EncodedLength.popDe : EncodedLength.Statement .popDe := encodedLength_of_bytes 0xD1 [] rfl rfl
theorem EncodedLength.jpNcA16 (v : Word) : EncodedLength.Statement (.jpNcA16 v) := encodedLength_of_bytes 0xD2 [_, _] rfl rfl
theorem EncodedLength.unrecognizedD3 : EncodedLength.Statement .unrecognizedD3 := encodedLength_of_bytes 0xD3 [] rfl rfl
theorem EncodedLength.callNcA16 (v : Word) : EncodedLength.Statement (.callNcA16 v) := encodedLength_of_bytes 0xD4 [_, _] rfl rfl
theorem EncodedLength.pushDe : EncodedLength.Statement .pushDe := encodedLength_of_bytes 0xD5 [] rfl rfl
theorem EncodedLength.subD8 (v : Byte) : EncodedLength.Statement (.subD8 v) := encodedLength_of_bytes 0xD6 [_] rfl rfl
theorem EncodedLength.rst10 : EncodedLength.Statement .rst10 := encodedLength_of_bytes 0xD7 [] rfl rfl
theorem EncodedLength.retC : EncodedLength.Statement .retC := encodedLength_of_bytes 0xD8 [] rfl rfl
theorem EncodedLength.reti : EncodedLength.Statement .reti := encodedLength_of_bytes 0xD9 [] rfl rfl
theorem EncodedLength.jpCA16 (v : Word) : EncodedLength.Statement (.jpCA16 v) := encodedLength_of_bytes 0xDA [_, _] rfl rfl
theorem EncodedLength.unrecognizedDB : EncodedLength.Statement .unrecognizedDB := encodedLength_of_bytes 0xDB [] rfl rfl
theorem EncodedLength.callCA16 (v : Word) : EncodedLength.Statement (.callCA16 v) := encodedLength_of_bytes 0xDC [_, _] rfl rfl
theorem EncodedLength.unrecognizedDD : EncodedLength.Statement .unrecognizedDD := encodedLength_of_bytes 0xDD [] rfl rfl
theorem EncodedLength.sbcAD8 (v : Byte) : EncodedLength.Statement (.sbcAD8 v) := encodedLength_of_bytes 0xDE [_] rfl rfl
theorem EncodedLength.rst18 : EncodedLength.Statement .rst18 := encodedLength_of_bytes 0xDF [] rfl rfl
theorem EncodedLength.ldhMemA8A (v : Byte) : EncodedLength.Statement (.ldhMemA8A v) := encodedLength_of_bytes 0xE0 [_] rfl rfl
theorem EncodedLength.popHl : EncodedLength.Statement .popHl := encodedLength_of_bytes 0xE1 [] rfl rfl
theorem EncodedLength.ldMemCA : EncodedLength.Statement .ldMemCA := encodedLength_of_bytes 0xE2 [] rfl rfl
theorem EncodedLength.unrecognizedE3 : EncodedLength.Statement .unrecognizedE3 := encodedLength_of_bytes 0xE3 [] rfl rfl
theorem EncodedLength.unrecognizedE4 : EncodedLength.Statement .unrecognizedE4 := encodedLength_of_bytes 0xE4 [] rfl rfl
theorem EncodedLength.pushHl : EncodedLength.Statement .pushHl := encodedLength_of_bytes 0xE5 [] rfl rfl
theorem EncodedLength.andD8 (v : Byte) : EncodedLength.Statement (.andD8 v) := encodedLength_of_bytes 0xE6 [_] rfl rfl
theorem EncodedLength.rst20 : EncodedLength.Statement .rst20 := encodedLength_of_bytes 0xE7 [] rfl rfl
theorem EncodedLength.addSpE8 (v : Byte) : EncodedLength.Statement (.addSpE8 v) := encodedLength_of_bytes 0xE8 [_] rfl rfl
theorem EncodedLength.jpHl : EncodedLength.Statement .jpHl := encodedLength_of_bytes 0xE9 [] rfl rfl
theorem EncodedLength.ldMemA16A (v : Word) : EncodedLength.Statement (.ldMemA16A v) := encodedLength_of_bytes 0xEA [_, _] rfl rfl
theorem EncodedLength.unrecognizedEB : EncodedLength.Statement .unrecognizedEB := encodedLength_of_bytes 0xEB [] rfl rfl
theorem EncodedLength.unrecognizedEC : EncodedLength.Statement .unrecognizedEC := encodedLength_of_bytes 0xEC [] rfl rfl
theorem EncodedLength.unrecognizedED : EncodedLength.Statement .unrecognizedED := encodedLength_of_bytes 0xED [] rfl rfl
theorem EncodedLength.xorD8 (v : Byte) : EncodedLength.Statement (.xorD8 v) := encodedLength_of_bytes 0xEE [_] rfl rfl
theorem EncodedLength.rst28 : EncodedLength.Statement .rst28 := encodedLength_of_bytes 0xEF [] rfl rfl
theorem EncodedLength.ldhAMemA8 (v : Byte) : EncodedLength.Statement (.ldhAMemA8 v) := encodedLength_of_bytes 0xF0 [_] rfl rfl
theorem EncodedLength.popAf : EncodedLength.Statement .popAf := encodedLength_of_bytes 0xF1 [] rfl rfl
theorem EncodedLength.ldAMemC : EncodedLength.Statement .ldAMemC := encodedLength_of_bytes 0xF2 [] rfl rfl
theorem EncodedLength.di : EncodedLength.Statement .di := encodedLength_of_bytes 0xF3 [] rfl rfl
theorem EncodedLength.unrecognizedF4 : EncodedLength.Statement .unrecognizedF4 := encodedLength_of_bytes 0xF4 [] rfl rfl
theorem EncodedLength.pushAf : EncodedLength.Statement .pushAf := encodedLength_of_bytes 0xF5 [] rfl rfl
theorem EncodedLength.orD8 (v : Byte) : EncodedLength.Statement (.orD8 v) := encodedLength_of_bytes 0xF6 [_] rfl rfl
theorem EncodedLength.rst30 : EncodedLength.Statement .rst30 := encodedLength_of_bytes 0xF7 [] rfl rfl
theorem EncodedLength.ldHlSpE8 (v : Byte) : EncodedLength.Statement (.ldHlSpE8 v) := encodedLength_of_bytes 0xF8 [_] rfl rfl
theorem EncodedLength.ldSpHl : EncodedLength.Statement .ldSpHl := encodedLength_of_bytes 0xF9 [] rfl rfl
theorem EncodedLength.ldAMemA16 (v : Word) : EncodedLength.Statement (.ldAMemA16 v) := encodedLength_of_bytes 0xFA [_, _] rfl rfl
theorem EncodedLength.ei : EncodedLength.Statement .ei := encodedLength_of_bytes 0xFB [] rfl rfl
theorem EncodedLength.unrecognizedFC : EncodedLength.Statement .unrecognizedFC := encodedLength_of_bytes 0xFC [] rfl rfl
theorem EncodedLength.unrecognizedFD : EncodedLength.Statement .unrecognizedFD := encodedLength_of_bytes 0xFD [] rfl rfl
theorem EncodedLength.cpD8 (v : Byte) : EncodedLength.Statement (.cpD8 v) := encodedLength_of_bytes 0xFE [_] rfl rfl
theorem EncodedLength.rst38 : EncodedLength.Statement .rst38 := encodedLength_of_bytes 0xFF [] rfl rfl
theorem EncodedLength.rlcB : EncodedLength.Statement .rlcB := encodedLength_of_bytes 0xCB [_] rfl rfl
theorem EncodedLength.rlcC : EncodedLength.Statement .rlcC := encodedLength_of_bytes 0xCB [_] rfl rfl
theorem EncodedLength.rlcD : EncodedLength.Statement .rlcD := encodedLength_of_bytes 0xCB [_] rfl rfl
theorem EncodedLength.rlcE : EncodedLength.Statement .rlcE := encodedLength_of_bytes 0xCB [_] rfl rfl
theorem EncodedLength.rlcH : EncodedLength.Statement .rlcH := encodedLength_of_bytes 0xCB [_] rfl rfl
theorem EncodedLength.rlcL : EncodedLength.Statement .rlcL := encodedLength_of_bytes 0xCB [_] rfl rfl
theorem EncodedLength.rlcMemHl : EncodedLength.Statement .rlcMemHl := encodedLength_of_bytes 0xCB [_] rfl rfl
theorem EncodedLength.rlcA : EncodedLength.Statement .rlcA := encodedLength_of_bytes 0xCB [_] rfl rfl
theorem EncodedLength.rrcB : EncodedLength.Statement .rrcB := encodedLength_of_bytes 0xCB [_] rfl rfl
theorem EncodedLength.rrcC : EncodedLength.Statement .rrcC := encodedLength_of_bytes 0xCB [_] rfl rfl
theorem EncodedLength.rrcD : EncodedLength.Statement .rrcD := encodedLength_of_bytes 0xCB [_] rfl rfl
theorem EncodedLength.rrcE : EncodedLength.Statement .rrcE := encodedLength_of_bytes 0xCB [_] rfl rfl
theorem EncodedLength.rrcH : EncodedLength.Statement .rrcH := encodedLength_of_bytes 0xCB [_] rfl rfl
theorem EncodedLength.rrcL : EncodedLength.Statement .rrcL := encodedLength_of_bytes 0xCB [_] rfl rfl
theorem EncodedLength.rrcMemHl : EncodedLength.Statement .rrcMemHl := encodedLength_of_bytes 0xCB [_] rfl rfl
theorem EncodedLength.rrcA : EncodedLength.Statement .rrcA := encodedLength_of_bytes 0xCB [_] rfl rfl
theorem EncodedLength.rlB : EncodedLength.Statement .rlB := encodedLength_of_bytes 0xCB [_] rfl rfl
theorem EncodedLength.rlC : EncodedLength.Statement .rlC := encodedLength_of_bytes 0xCB [_] rfl rfl
theorem EncodedLength.rlD : EncodedLength.Statement .rlD := encodedLength_of_bytes 0xCB [_] rfl rfl
theorem EncodedLength.rlE : EncodedLength.Statement .rlE := encodedLength_of_bytes 0xCB [_] rfl rfl
theorem EncodedLength.rlH : EncodedLength.Statement .rlH := encodedLength_of_bytes 0xCB [_] rfl rfl
theorem EncodedLength.rlL : EncodedLength.Statement .rlL := encodedLength_of_bytes 0xCB [_] rfl rfl
theorem EncodedLength.rlMemHl : EncodedLength.Statement .rlMemHl := encodedLength_of_bytes 0xCB [_] rfl rfl
theorem EncodedLength.rlA : EncodedLength.Statement .rlA := encodedLength_of_bytes 0xCB [_] rfl rfl
theorem EncodedLength.rrB : EncodedLength.Statement .rrB := encodedLength_of_bytes 0xCB [_] rfl rfl
theorem EncodedLength.rrC : EncodedLength.Statement .rrC := encodedLength_of_bytes 0xCB [_] rfl rfl
theorem EncodedLength.rrD : EncodedLength.Statement .rrD := encodedLength_of_bytes 0xCB [_] rfl rfl
theorem EncodedLength.rrE : EncodedLength.Statement .rrE := encodedLength_of_bytes 0xCB [_] rfl rfl
theorem EncodedLength.rrH : EncodedLength.Statement .rrH := encodedLength_of_bytes 0xCB [_] rfl rfl
theorem EncodedLength.rrL : EncodedLength.Statement .rrL := encodedLength_of_bytes 0xCB [_] rfl rfl
theorem EncodedLength.rrMemHl : EncodedLength.Statement .rrMemHl := encodedLength_of_bytes 0xCB [_] rfl rfl
theorem EncodedLength.rrA : EncodedLength.Statement .rrA := encodedLength_of_bytes 0xCB [_] rfl rfl
theorem EncodedLength.slaB : EncodedLength.Statement .slaB := encodedLength_of_bytes 0xCB [_] rfl rfl
theorem EncodedLength.slaC : EncodedLength.Statement .slaC := encodedLength_of_bytes 0xCB [_] rfl rfl
theorem EncodedLength.slaD : EncodedLength.Statement .slaD := encodedLength_of_bytes 0xCB [_] rfl rfl
theorem EncodedLength.slaE : EncodedLength.Statement .slaE := encodedLength_of_bytes 0xCB [_] rfl rfl
theorem EncodedLength.slaH : EncodedLength.Statement .slaH := encodedLength_of_bytes 0xCB [_] rfl rfl
theorem EncodedLength.slaL : EncodedLength.Statement .slaL := encodedLength_of_bytes 0xCB [_] rfl rfl
theorem EncodedLength.slaMemHl : EncodedLength.Statement .slaMemHl := encodedLength_of_bytes 0xCB [_] rfl rfl
theorem EncodedLength.slaA : EncodedLength.Statement .slaA := encodedLength_of_bytes 0xCB [_] rfl rfl
theorem EncodedLength.sraB : EncodedLength.Statement .sraB := encodedLength_of_bytes 0xCB [_] rfl rfl
theorem EncodedLength.sraC : EncodedLength.Statement .sraC := encodedLength_of_bytes 0xCB [_] rfl rfl
theorem EncodedLength.sraD : EncodedLength.Statement .sraD := encodedLength_of_bytes 0xCB [_] rfl rfl
theorem EncodedLength.sraE : EncodedLength.Statement .sraE := encodedLength_of_bytes 0xCB [_] rfl rfl
theorem EncodedLength.sraH : EncodedLength.Statement .sraH := encodedLength_of_bytes 0xCB [_] rfl rfl
theorem EncodedLength.sraL : EncodedLength.Statement .sraL := encodedLength_of_bytes 0xCB [_] rfl rfl
theorem EncodedLength.sraMemHl : EncodedLength.Statement .sraMemHl := encodedLength_of_bytes 0xCB [_] rfl rfl
theorem EncodedLength.sraA : EncodedLength.Statement .sraA := encodedLength_of_bytes 0xCB [_] rfl rfl
theorem EncodedLength.swapB : EncodedLength.Statement .swapB := encodedLength_of_bytes 0xCB [_] rfl rfl
theorem EncodedLength.swapC : EncodedLength.Statement .swapC := encodedLength_of_bytes 0xCB [_] rfl rfl
theorem EncodedLength.swapD : EncodedLength.Statement .swapD := encodedLength_of_bytes 0xCB [_] rfl rfl
theorem EncodedLength.swapE : EncodedLength.Statement .swapE := encodedLength_of_bytes 0xCB [_] rfl rfl
theorem EncodedLength.swapH : EncodedLength.Statement .swapH := encodedLength_of_bytes 0xCB [_] rfl rfl
theorem EncodedLength.swapL : EncodedLength.Statement .swapL := encodedLength_of_bytes 0xCB [_] rfl rfl
theorem EncodedLength.swapMemHl : EncodedLength.Statement .swapMemHl := encodedLength_of_bytes 0xCB [_] rfl rfl
theorem EncodedLength.swapA : EncodedLength.Statement .swapA := encodedLength_of_bytes 0xCB [_] rfl rfl
theorem EncodedLength.srlB : EncodedLength.Statement .srlB := encodedLength_of_bytes 0xCB [_] rfl rfl
theorem EncodedLength.srlC : EncodedLength.Statement .srlC := encodedLength_of_bytes 0xCB [_] rfl rfl
theorem EncodedLength.srlD : EncodedLength.Statement .srlD := encodedLength_of_bytes 0xCB [_] rfl rfl
theorem EncodedLength.srlE : EncodedLength.Statement .srlE := encodedLength_of_bytes 0xCB [_] rfl rfl
theorem EncodedLength.srlH : EncodedLength.Statement .srlH := encodedLength_of_bytes 0xCB [_] rfl rfl
theorem EncodedLength.srlL : EncodedLength.Statement .srlL := encodedLength_of_bytes 0xCB [_] rfl rfl
theorem EncodedLength.srlMemHl : EncodedLength.Statement .srlMemHl := encodedLength_of_bytes 0xCB [_] rfl rfl
theorem EncodedLength.srlA : EncodedLength.Statement .srlA := encodedLength_of_bytes 0xCB [_] rfl rfl
theorem EncodedLength.bit0B : EncodedLength.Statement .bit0B := encodedLength_of_bytes 0xCB [_] rfl rfl
theorem EncodedLength.bit0C : EncodedLength.Statement .bit0C := encodedLength_of_bytes 0xCB [_] rfl rfl
theorem EncodedLength.bit0D : EncodedLength.Statement .bit0D := encodedLength_of_bytes 0xCB [_] rfl rfl
theorem EncodedLength.bit0E : EncodedLength.Statement .bit0E := encodedLength_of_bytes 0xCB [_] rfl rfl
theorem EncodedLength.bit0H : EncodedLength.Statement .bit0H := encodedLength_of_bytes 0xCB [_] rfl rfl
theorem EncodedLength.bit0L : EncodedLength.Statement .bit0L := encodedLength_of_bytes 0xCB [_] rfl rfl
theorem EncodedLength.bit0MemHl : EncodedLength.Statement .bit0MemHl := encodedLength_of_bytes 0xCB [_] rfl rfl
theorem EncodedLength.bit0A : EncodedLength.Statement .bit0A := encodedLength_of_bytes 0xCB [_] rfl rfl
theorem EncodedLength.bit1B : EncodedLength.Statement .bit1B := encodedLength_of_bytes 0xCB [_] rfl rfl
theorem EncodedLength.bit1C : EncodedLength.Statement .bit1C := encodedLength_of_bytes 0xCB [_] rfl rfl
theorem EncodedLength.bit1D : EncodedLength.Statement .bit1D := encodedLength_of_bytes 0xCB [_] rfl rfl
theorem EncodedLength.bit1E : EncodedLength.Statement .bit1E := encodedLength_of_bytes 0xCB [_] rfl rfl
theorem EncodedLength.bit1H : EncodedLength.Statement .bit1H := encodedLength_of_bytes 0xCB [_] rfl rfl
theorem EncodedLength.bit1L : EncodedLength.Statement .bit1L := encodedLength_of_bytes 0xCB [_] rfl rfl
theorem EncodedLength.bit1MemHl : EncodedLength.Statement .bit1MemHl := encodedLength_of_bytes 0xCB [_] rfl rfl
theorem EncodedLength.bit1A : EncodedLength.Statement .bit1A := encodedLength_of_bytes 0xCB [_] rfl rfl
theorem EncodedLength.bit2B : EncodedLength.Statement .bit2B := encodedLength_of_bytes 0xCB [_] rfl rfl
theorem EncodedLength.bit2C : EncodedLength.Statement .bit2C := encodedLength_of_bytes 0xCB [_] rfl rfl
theorem EncodedLength.bit2D : EncodedLength.Statement .bit2D := encodedLength_of_bytes 0xCB [_] rfl rfl
theorem EncodedLength.bit2E : EncodedLength.Statement .bit2E := encodedLength_of_bytes 0xCB [_] rfl rfl
theorem EncodedLength.bit2H : EncodedLength.Statement .bit2H := encodedLength_of_bytes 0xCB [_] rfl rfl
theorem EncodedLength.bit2L : EncodedLength.Statement .bit2L := encodedLength_of_bytes 0xCB [_] rfl rfl
theorem EncodedLength.bit2MemHl : EncodedLength.Statement .bit2MemHl := encodedLength_of_bytes 0xCB [_] rfl rfl
theorem EncodedLength.bit2A : EncodedLength.Statement .bit2A := encodedLength_of_bytes 0xCB [_] rfl rfl
theorem EncodedLength.bit3B : EncodedLength.Statement .bit3B := encodedLength_of_bytes 0xCB [_] rfl rfl
theorem EncodedLength.bit3C : EncodedLength.Statement .bit3C := encodedLength_of_bytes 0xCB [_] rfl rfl
theorem EncodedLength.bit3D : EncodedLength.Statement .bit3D := encodedLength_of_bytes 0xCB [_] rfl rfl
theorem EncodedLength.bit3E : EncodedLength.Statement .bit3E := encodedLength_of_bytes 0xCB [_] rfl rfl
theorem EncodedLength.bit3H : EncodedLength.Statement .bit3H := encodedLength_of_bytes 0xCB [_] rfl rfl
theorem EncodedLength.bit3L : EncodedLength.Statement .bit3L := encodedLength_of_bytes 0xCB [_] rfl rfl
theorem EncodedLength.bit3MemHl : EncodedLength.Statement .bit3MemHl := encodedLength_of_bytes 0xCB [_] rfl rfl
theorem EncodedLength.bit3A : EncodedLength.Statement .bit3A := encodedLength_of_bytes 0xCB [_] rfl rfl
theorem EncodedLength.bit4B : EncodedLength.Statement .bit4B := encodedLength_of_bytes 0xCB [_] rfl rfl
theorem EncodedLength.bit4C : EncodedLength.Statement .bit4C := encodedLength_of_bytes 0xCB [_] rfl rfl
theorem EncodedLength.bit4D : EncodedLength.Statement .bit4D := encodedLength_of_bytes 0xCB [_] rfl rfl
theorem EncodedLength.bit4E : EncodedLength.Statement .bit4E := encodedLength_of_bytes 0xCB [_] rfl rfl
theorem EncodedLength.bit4H : EncodedLength.Statement .bit4H := encodedLength_of_bytes 0xCB [_] rfl rfl
theorem EncodedLength.bit4L : EncodedLength.Statement .bit4L := encodedLength_of_bytes 0xCB [_] rfl rfl
theorem EncodedLength.bit4MemHl : EncodedLength.Statement .bit4MemHl := encodedLength_of_bytes 0xCB [_] rfl rfl
theorem EncodedLength.bit4A : EncodedLength.Statement .bit4A := encodedLength_of_bytes 0xCB [_] rfl rfl
theorem EncodedLength.bit5B : EncodedLength.Statement .bit5B := encodedLength_of_bytes 0xCB [_] rfl rfl
theorem EncodedLength.bit5C : EncodedLength.Statement .bit5C := encodedLength_of_bytes 0xCB [_] rfl rfl
theorem EncodedLength.bit5D : EncodedLength.Statement .bit5D := encodedLength_of_bytes 0xCB [_] rfl rfl
theorem EncodedLength.bit5E : EncodedLength.Statement .bit5E := encodedLength_of_bytes 0xCB [_] rfl rfl
theorem EncodedLength.bit5H : EncodedLength.Statement .bit5H := encodedLength_of_bytes 0xCB [_] rfl rfl
theorem EncodedLength.bit5L : EncodedLength.Statement .bit5L := encodedLength_of_bytes 0xCB [_] rfl rfl
theorem EncodedLength.bit5MemHl : EncodedLength.Statement .bit5MemHl := encodedLength_of_bytes 0xCB [_] rfl rfl
theorem EncodedLength.bit5A : EncodedLength.Statement .bit5A := encodedLength_of_bytes 0xCB [_] rfl rfl
theorem EncodedLength.bit6B : EncodedLength.Statement .bit6B := encodedLength_of_bytes 0xCB [_] rfl rfl
theorem EncodedLength.bit6C : EncodedLength.Statement .bit6C := encodedLength_of_bytes 0xCB [_] rfl rfl
theorem EncodedLength.bit6D : EncodedLength.Statement .bit6D := encodedLength_of_bytes 0xCB [_] rfl rfl
theorem EncodedLength.bit6E : EncodedLength.Statement .bit6E := encodedLength_of_bytes 0xCB [_] rfl rfl
theorem EncodedLength.bit6H : EncodedLength.Statement .bit6H := encodedLength_of_bytes 0xCB [_] rfl rfl
theorem EncodedLength.bit6L : EncodedLength.Statement .bit6L := encodedLength_of_bytes 0xCB [_] rfl rfl
theorem EncodedLength.bit6MemHl : EncodedLength.Statement .bit6MemHl := encodedLength_of_bytes 0xCB [_] rfl rfl
theorem EncodedLength.bit6A : EncodedLength.Statement .bit6A := encodedLength_of_bytes 0xCB [_] rfl rfl
theorem EncodedLength.bit7B : EncodedLength.Statement .bit7B := encodedLength_of_bytes 0xCB [_] rfl rfl
theorem EncodedLength.bit7C : EncodedLength.Statement .bit7C := encodedLength_of_bytes 0xCB [_] rfl rfl
theorem EncodedLength.bit7D : EncodedLength.Statement .bit7D := encodedLength_of_bytes 0xCB [_] rfl rfl
theorem EncodedLength.bit7E : EncodedLength.Statement .bit7E := encodedLength_of_bytes 0xCB [_] rfl rfl
theorem EncodedLength.bit7H : EncodedLength.Statement .bit7H := encodedLength_of_bytes 0xCB [_] rfl rfl
theorem EncodedLength.bit7L : EncodedLength.Statement .bit7L := encodedLength_of_bytes 0xCB [_] rfl rfl
theorem EncodedLength.bit7MemHl : EncodedLength.Statement .bit7MemHl := encodedLength_of_bytes 0xCB [_] rfl rfl
theorem EncodedLength.bit7A : EncodedLength.Statement .bit7A := encodedLength_of_bytes 0xCB [_] rfl rfl
theorem EncodedLength.res0B : EncodedLength.Statement .res0B := encodedLength_of_bytes 0xCB [_] rfl rfl
theorem EncodedLength.res0C : EncodedLength.Statement .res0C := encodedLength_of_bytes 0xCB [_] rfl rfl
theorem EncodedLength.res0D : EncodedLength.Statement .res0D := encodedLength_of_bytes 0xCB [_] rfl rfl
theorem EncodedLength.res0E : EncodedLength.Statement .res0E := encodedLength_of_bytes 0xCB [_] rfl rfl
theorem EncodedLength.res0H : EncodedLength.Statement .res0H := encodedLength_of_bytes 0xCB [_] rfl rfl
theorem EncodedLength.res0L : EncodedLength.Statement .res0L := encodedLength_of_bytes 0xCB [_] rfl rfl
theorem EncodedLength.res0MemHl : EncodedLength.Statement .res0MemHl := encodedLength_of_bytes 0xCB [_] rfl rfl
theorem EncodedLength.res0A : EncodedLength.Statement .res0A := encodedLength_of_bytes 0xCB [_] rfl rfl
theorem EncodedLength.res1B : EncodedLength.Statement .res1B := encodedLength_of_bytes 0xCB [_] rfl rfl
theorem EncodedLength.res1C : EncodedLength.Statement .res1C := encodedLength_of_bytes 0xCB [_] rfl rfl
theorem EncodedLength.res1D : EncodedLength.Statement .res1D := encodedLength_of_bytes 0xCB [_] rfl rfl
theorem EncodedLength.res1E : EncodedLength.Statement .res1E := encodedLength_of_bytes 0xCB [_] rfl rfl
theorem EncodedLength.res1H : EncodedLength.Statement .res1H := encodedLength_of_bytes 0xCB [_] rfl rfl
theorem EncodedLength.res1L : EncodedLength.Statement .res1L := encodedLength_of_bytes 0xCB [_] rfl rfl
theorem EncodedLength.res1MemHl : EncodedLength.Statement .res1MemHl := encodedLength_of_bytes 0xCB [_] rfl rfl
theorem EncodedLength.res1A : EncodedLength.Statement .res1A := encodedLength_of_bytes 0xCB [_] rfl rfl
theorem EncodedLength.res2B : EncodedLength.Statement .res2B := encodedLength_of_bytes 0xCB [_] rfl rfl
theorem EncodedLength.res2C : EncodedLength.Statement .res2C := encodedLength_of_bytes 0xCB [_] rfl rfl
theorem EncodedLength.res2D : EncodedLength.Statement .res2D := encodedLength_of_bytes 0xCB [_] rfl rfl
theorem EncodedLength.res2E : EncodedLength.Statement .res2E := encodedLength_of_bytes 0xCB [_] rfl rfl
theorem EncodedLength.res2H : EncodedLength.Statement .res2H := encodedLength_of_bytes 0xCB [_] rfl rfl
theorem EncodedLength.res2L : EncodedLength.Statement .res2L := encodedLength_of_bytes 0xCB [_] rfl rfl
theorem EncodedLength.res2MemHl : EncodedLength.Statement .res2MemHl := encodedLength_of_bytes 0xCB [_] rfl rfl
theorem EncodedLength.res2A : EncodedLength.Statement .res2A := encodedLength_of_bytes 0xCB [_] rfl rfl
theorem EncodedLength.res3B : EncodedLength.Statement .res3B := encodedLength_of_bytes 0xCB [_] rfl rfl
theorem EncodedLength.res3C : EncodedLength.Statement .res3C := encodedLength_of_bytes 0xCB [_] rfl rfl
theorem EncodedLength.res3D : EncodedLength.Statement .res3D := encodedLength_of_bytes 0xCB [_] rfl rfl
theorem EncodedLength.res3E : EncodedLength.Statement .res3E := encodedLength_of_bytes 0xCB [_] rfl rfl
theorem EncodedLength.res3H : EncodedLength.Statement .res3H := encodedLength_of_bytes 0xCB [_] rfl rfl
theorem EncodedLength.res3L : EncodedLength.Statement .res3L := encodedLength_of_bytes 0xCB [_] rfl rfl
theorem EncodedLength.res3MemHl : EncodedLength.Statement .res3MemHl := encodedLength_of_bytes 0xCB [_] rfl rfl
theorem EncodedLength.res3A : EncodedLength.Statement .res3A := encodedLength_of_bytes 0xCB [_] rfl rfl
theorem EncodedLength.res4B : EncodedLength.Statement .res4B := encodedLength_of_bytes 0xCB [_] rfl rfl
theorem EncodedLength.res4C : EncodedLength.Statement .res4C := encodedLength_of_bytes 0xCB [_] rfl rfl
theorem EncodedLength.res4D : EncodedLength.Statement .res4D := encodedLength_of_bytes 0xCB [_] rfl rfl
theorem EncodedLength.res4E : EncodedLength.Statement .res4E := encodedLength_of_bytes 0xCB [_] rfl rfl
theorem EncodedLength.res4H : EncodedLength.Statement .res4H := encodedLength_of_bytes 0xCB [_] rfl rfl
theorem EncodedLength.res4L : EncodedLength.Statement .res4L := encodedLength_of_bytes 0xCB [_] rfl rfl
theorem EncodedLength.res4MemHl : EncodedLength.Statement .res4MemHl := encodedLength_of_bytes 0xCB [_] rfl rfl
theorem EncodedLength.res4A : EncodedLength.Statement .res4A := encodedLength_of_bytes 0xCB [_] rfl rfl
theorem EncodedLength.res5B : EncodedLength.Statement .res5B := encodedLength_of_bytes 0xCB [_] rfl rfl
theorem EncodedLength.res5C : EncodedLength.Statement .res5C := encodedLength_of_bytes 0xCB [_] rfl rfl
theorem EncodedLength.res5D : EncodedLength.Statement .res5D := encodedLength_of_bytes 0xCB [_] rfl rfl
theorem EncodedLength.res5E : EncodedLength.Statement .res5E := encodedLength_of_bytes 0xCB [_] rfl rfl
theorem EncodedLength.res5H : EncodedLength.Statement .res5H := encodedLength_of_bytes 0xCB [_] rfl rfl
theorem EncodedLength.res5L : EncodedLength.Statement .res5L := encodedLength_of_bytes 0xCB [_] rfl rfl
theorem EncodedLength.res5MemHl : EncodedLength.Statement .res5MemHl := encodedLength_of_bytes 0xCB [_] rfl rfl
theorem EncodedLength.res5A : EncodedLength.Statement .res5A := encodedLength_of_bytes 0xCB [_] rfl rfl
theorem EncodedLength.res6B : EncodedLength.Statement .res6B := encodedLength_of_bytes 0xCB [_] rfl rfl
theorem EncodedLength.res6C : EncodedLength.Statement .res6C := encodedLength_of_bytes 0xCB [_] rfl rfl
theorem EncodedLength.res6D : EncodedLength.Statement .res6D := encodedLength_of_bytes 0xCB [_] rfl rfl
theorem EncodedLength.res6E : EncodedLength.Statement .res6E := encodedLength_of_bytes 0xCB [_] rfl rfl
theorem EncodedLength.res6H : EncodedLength.Statement .res6H := encodedLength_of_bytes 0xCB [_] rfl rfl
theorem EncodedLength.res6L : EncodedLength.Statement .res6L := encodedLength_of_bytes 0xCB [_] rfl rfl
theorem EncodedLength.res6MemHl : EncodedLength.Statement .res6MemHl := encodedLength_of_bytes 0xCB [_] rfl rfl
theorem EncodedLength.res6A : EncodedLength.Statement .res6A := encodedLength_of_bytes 0xCB [_] rfl rfl
theorem EncodedLength.res7B : EncodedLength.Statement .res7B := encodedLength_of_bytes 0xCB [_] rfl rfl
theorem EncodedLength.res7C : EncodedLength.Statement .res7C := encodedLength_of_bytes 0xCB [_] rfl rfl
theorem EncodedLength.res7D : EncodedLength.Statement .res7D := encodedLength_of_bytes 0xCB [_] rfl rfl
theorem EncodedLength.res7E : EncodedLength.Statement .res7E := encodedLength_of_bytes 0xCB [_] rfl rfl
theorem EncodedLength.res7H : EncodedLength.Statement .res7H := encodedLength_of_bytes 0xCB [_] rfl rfl
theorem EncodedLength.res7L : EncodedLength.Statement .res7L := encodedLength_of_bytes 0xCB [_] rfl rfl
theorem EncodedLength.res7MemHl : EncodedLength.Statement .res7MemHl := encodedLength_of_bytes 0xCB [_] rfl rfl
theorem EncodedLength.res7A : EncodedLength.Statement .res7A := encodedLength_of_bytes 0xCB [_] rfl rfl
theorem EncodedLength.set0B : EncodedLength.Statement .set0B := encodedLength_of_bytes 0xCB [_] rfl rfl
theorem EncodedLength.set0C : EncodedLength.Statement .set0C := encodedLength_of_bytes 0xCB [_] rfl rfl
theorem EncodedLength.set0D : EncodedLength.Statement .set0D := encodedLength_of_bytes 0xCB [_] rfl rfl
theorem EncodedLength.set0E : EncodedLength.Statement .set0E := encodedLength_of_bytes 0xCB [_] rfl rfl
theorem EncodedLength.set0H : EncodedLength.Statement .set0H := encodedLength_of_bytes 0xCB [_] rfl rfl
theorem EncodedLength.set0L : EncodedLength.Statement .set0L := encodedLength_of_bytes 0xCB [_] rfl rfl
theorem EncodedLength.set0MemHl : EncodedLength.Statement .set0MemHl := encodedLength_of_bytes 0xCB [_] rfl rfl
theorem EncodedLength.set0A : EncodedLength.Statement .set0A := encodedLength_of_bytes 0xCB [_] rfl rfl
theorem EncodedLength.set1B : EncodedLength.Statement .set1B := encodedLength_of_bytes 0xCB [_] rfl rfl
theorem EncodedLength.set1C : EncodedLength.Statement .set1C := encodedLength_of_bytes 0xCB [_] rfl rfl
theorem EncodedLength.set1D : EncodedLength.Statement .set1D := encodedLength_of_bytes 0xCB [_] rfl rfl
theorem EncodedLength.set1E : EncodedLength.Statement .set1E := encodedLength_of_bytes 0xCB [_] rfl rfl
theorem EncodedLength.set1H : EncodedLength.Statement .set1H := encodedLength_of_bytes 0xCB [_] rfl rfl
theorem EncodedLength.set1L : EncodedLength.Statement .set1L := encodedLength_of_bytes 0xCB [_] rfl rfl
theorem EncodedLength.set1MemHl : EncodedLength.Statement .set1MemHl := encodedLength_of_bytes 0xCB [_] rfl rfl
theorem EncodedLength.set1A : EncodedLength.Statement .set1A := encodedLength_of_bytes 0xCB [_] rfl rfl
theorem EncodedLength.set2B : EncodedLength.Statement .set2B := encodedLength_of_bytes 0xCB [_] rfl rfl
theorem EncodedLength.set2C : EncodedLength.Statement .set2C := encodedLength_of_bytes 0xCB [_] rfl rfl
theorem EncodedLength.set2D : EncodedLength.Statement .set2D := encodedLength_of_bytes 0xCB [_] rfl rfl
theorem EncodedLength.set2E : EncodedLength.Statement .set2E := encodedLength_of_bytes 0xCB [_] rfl rfl
theorem EncodedLength.set2H : EncodedLength.Statement .set2H := encodedLength_of_bytes 0xCB [_] rfl rfl
theorem EncodedLength.set2L : EncodedLength.Statement .set2L := encodedLength_of_bytes 0xCB [_] rfl rfl
theorem EncodedLength.set2MemHl : EncodedLength.Statement .set2MemHl := encodedLength_of_bytes 0xCB [_] rfl rfl
theorem EncodedLength.set2A : EncodedLength.Statement .set2A := encodedLength_of_bytes 0xCB [_] rfl rfl
theorem EncodedLength.set3B : EncodedLength.Statement .set3B := encodedLength_of_bytes 0xCB [_] rfl rfl
theorem EncodedLength.set3C : EncodedLength.Statement .set3C := encodedLength_of_bytes 0xCB [_] rfl rfl
theorem EncodedLength.set3D : EncodedLength.Statement .set3D := encodedLength_of_bytes 0xCB [_] rfl rfl
theorem EncodedLength.set3E : EncodedLength.Statement .set3E := encodedLength_of_bytes 0xCB [_] rfl rfl
theorem EncodedLength.set3H : EncodedLength.Statement .set3H := encodedLength_of_bytes 0xCB [_] rfl rfl
theorem EncodedLength.set3L : EncodedLength.Statement .set3L := encodedLength_of_bytes 0xCB [_] rfl rfl
theorem EncodedLength.set3MemHl : EncodedLength.Statement .set3MemHl := encodedLength_of_bytes 0xCB [_] rfl rfl
theorem EncodedLength.set3A : EncodedLength.Statement .set3A := encodedLength_of_bytes 0xCB [_] rfl rfl
theorem EncodedLength.set4B : EncodedLength.Statement .set4B := encodedLength_of_bytes 0xCB [_] rfl rfl
theorem EncodedLength.set4C : EncodedLength.Statement .set4C := encodedLength_of_bytes 0xCB [_] rfl rfl
theorem EncodedLength.set4D : EncodedLength.Statement .set4D := encodedLength_of_bytes 0xCB [_] rfl rfl
theorem EncodedLength.set4E : EncodedLength.Statement .set4E := encodedLength_of_bytes 0xCB [_] rfl rfl
theorem EncodedLength.set4H : EncodedLength.Statement .set4H := encodedLength_of_bytes 0xCB [_] rfl rfl
theorem EncodedLength.set4L : EncodedLength.Statement .set4L := encodedLength_of_bytes 0xCB [_] rfl rfl
theorem EncodedLength.set4MemHl : EncodedLength.Statement .set4MemHl := encodedLength_of_bytes 0xCB [_] rfl rfl
theorem EncodedLength.set4A : EncodedLength.Statement .set4A := encodedLength_of_bytes 0xCB [_] rfl rfl
theorem EncodedLength.set5B : EncodedLength.Statement .set5B := encodedLength_of_bytes 0xCB [_] rfl rfl
theorem EncodedLength.set5C : EncodedLength.Statement .set5C := encodedLength_of_bytes 0xCB [_] rfl rfl
theorem EncodedLength.set5D : EncodedLength.Statement .set5D := encodedLength_of_bytes 0xCB [_] rfl rfl
theorem EncodedLength.set5E : EncodedLength.Statement .set5E := encodedLength_of_bytes 0xCB [_] rfl rfl
theorem EncodedLength.set5H : EncodedLength.Statement .set5H := encodedLength_of_bytes 0xCB [_] rfl rfl
theorem EncodedLength.set5L : EncodedLength.Statement .set5L := encodedLength_of_bytes 0xCB [_] rfl rfl
theorem EncodedLength.set5MemHl : EncodedLength.Statement .set5MemHl := encodedLength_of_bytes 0xCB [_] rfl rfl
theorem EncodedLength.set5A : EncodedLength.Statement .set5A := encodedLength_of_bytes 0xCB [_] rfl rfl
theorem EncodedLength.set6B : EncodedLength.Statement .set6B := encodedLength_of_bytes 0xCB [_] rfl rfl
theorem EncodedLength.set6C : EncodedLength.Statement .set6C := encodedLength_of_bytes 0xCB [_] rfl rfl
theorem EncodedLength.set6D : EncodedLength.Statement .set6D := encodedLength_of_bytes 0xCB [_] rfl rfl
theorem EncodedLength.set6E : EncodedLength.Statement .set6E := encodedLength_of_bytes 0xCB [_] rfl rfl
theorem EncodedLength.set6H : EncodedLength.Statement .set6H := encodedLength_of_bytes 0xCB [_] rfl rfl
theorem EncodedLength.set6L : EncodedLength.Statement .set6L := encodedLength_of_bytes 0xCB [_] rfl rfl
theorem EncodedLength.set6MemHl : EncodedLength.Statement .set6MemHl := encodedLength_of_bytes 0xCB [_] rfl rfl
theorem EncodedLength.set6A : EncodedLength.Statement .set6A := encodedLength_of_bytes 0xCB [_] rfl rfl
theorem EncodedLength.set7B : EncodedLength.Statement .set7B := encodedLength_of_bytes 0xCB [_] rfl rfl
theorem EncodedLength.set7C : EncodedLength.Statement .set7C := encodedLength_of_bytes 0xCB [_] rfl rfl
theorem EncodedLength.set7D : EncodedLength.Statement .set7D := encodedLength_of_bytes 0xCB [_] rfl rfl
theorem EncodedLength.set7E : EncodedLength.Statement .set7E := encodedLength_of_bytes 0xCB [_] rfl rfl
theorem EncodedLength.set7H : EncodedLength.Statement .set7H := encodedLength_of_bytes 0xCB [_] rfl rfl
theorem EncodedLength.set7L : EncodedLength.Statement .set7L := encodedLength_of_bytes 0xCB [_] rfl rfl
theorem EncodedLength.set7MemHl : EncodedLength.Statement .set7MemHl := encodedLength_of_bytes 0xCB [_] rfl rfl
theorem EncodedLength.set7A : EncodedLength.Statement .set7A := encodedLength_of_bytes 0xCB [_] rfl rfl

end Sys2Proof.Laws
end

