-- ==== Sys2Proof/Laws/Ppu.lean ====
section
/-! SUPPORT. Laws/Ppu.lean: what the PPU's operations can do: the line compare, the exit of a mode, the renderer, and the
loop of a tick as one recursion on the cycles that are left. -/

namespace Sys2Proof.Machine

/-- Every budget is at least 80. -/
theorem budget_ge (m : Mode) : 80 ≤ m.budget := by cases m <;> decide

/-- The state with the mode's cycle count replaced. -/
def State.withCnt (s : State) (n : Nat) : State := { s with ppu := { s.ppu with cnt := n } }

@[simp] theorem State.withCnt_cnt (s : State) (n : Nat) : (s.withCnt n).ppu.cnt = n := rfl
@[simp] theorem State.withCnt_mode (s : State) (n : Nat) : (s.withCnt n).ppu.mode = s.ppu.mode := rfl
@[simp] theorem State.withCnt_line (s : State) (n : Nat) : (s.withCnt n).ppu.line = s.ppu.line := rfl
@[simp] theorem State.withCnt_lcdc (s : State) (n : Nat) : (s.withCnt n).ppu.lcdc = s.ppu.lcdc := rfl
@[simp] theorem State.withCnt_withCnt (s : State) (n k : Nat) : (s.withCnt n).withCnt k = s.withCnt k := rfl

/-- Only the PPU, IF and the pixel buffer differ. -/
def PpuOnly (s t : State) : Prop := t = { s with ppu := t.ppu, ifReg := t.ifReg, pb := t.pb }

theorem PpuOnly.refl (s : State) : PpuOnly s s := rfl

theorem PpuOnly.trans {s t u : State} (h : PpuOnly s t) (h' : PpuOnly t u) : PpuOnly s u := by
  unfold PpuOnly at *
  rw [h] at h'
  rw [h']

theorem PpuOnly.withPpu (s : State) (p : Ppu) : PpuOnly s { s with ppu := p } := rfl

/-! ## The line compare -/

/-- The compare writes STAT bit 2 and nothing else of the PPU. -/
theorem lineCompare_ppu (s : State) :
    (lineCompare s).ppu = { s.ppu with lycEq := decide (s.ppu.line = s.ppu.lyc.toNat) } := by
  unfold lineCompare
  split
  · rename_i h; simp only [h, decide_true]; split <;> rfl
  · rename_i h; simp [h]

theorem PpuOnly.lineCompare (s : State) : PpuOnly s (lineCompare s) := by
  unfold Machine.lineCompare
  split
  · simp only; split <;> rfl
  · rfl

theorem lineCompare_withCnt (s : State) (n : Nat) : lineCompare (s.withCnt n) = (lineCompare s).withCnt n := by
  unfold lineCompare
  by_cases h : s.ppu.line = s.ppu.lyc.toNat
  · have h' : (s.withCnt n).ppu.line = (s.withCnt n).ppu.lyc.toNat := h
    rw [if_pos h, if_pos h']
    show (if s.ppu.statSel.getLsbD 3 = true then _ else _) =
      State.withCnt (if s.ppu.statSel.getLsbD 3 = true then _ else _) n
    split <;> rfl
  · have h' : ¬(s.withCnt n).ppu.line = (s.withCnt n).ppu.lyc.toNat := h
    rw [if_neg h, if_neg h']; rfl

/-! ## The renderer -/

theorem drawSpriteColumn_length (s : State) (line : Nat) (o : Sprite) (row : List Pixel) (c : Nat) :
    (drawSpriteColumn s line o row c).length = row.length := by
  unfold drawSpriteColumn
  split
  · rfl
  · split <;> simp

theorem drawSprite_length (s : State) (line : Nat) (row : List Pixel) (o : Sprite) :
    (drawSprite s line row o).length = row.length := by
  simp only [drawSprite, List.foldl, drawSpriteColumn_length]

theorem drawSprites_length (s : State) (line : Nat) (row : List Pixel) :
    (drawSprites s line row).length = row.length := by
  unfold drawSprites
  generalize s.ppu.cache = l
  induction l generalizing row with
  | nil => rfl
  | cons o l ih => simp only [List.foldl]; rw [ih, drawSprite_length]

/-- A rendered row has 160 pixels. -/
theorem renderRow_length (s : State) (line : Nat) : (renderRow s line).length = Config.columns := by
  unfold renderRow
  simp only
  split
  · rw [drawSprites_length]; simp
  · simp

/-! ## The exit of a mode -/

/-- The mode and line after the exit of a mode (rules R251, R253, R254). -/
def nextLine : Mode → Nat → Mode × Nat
  | .oamSearch, n => (.lineRender, n)
  | .lineRender, n => (.hblank, n + 1)
  | .hblank, n => if n = Config.visibleLines then (.vblank, n) else (.oamSearch, n)
  | .vblank, n => if n + 1 = Config.totalLines then (.oamSearch, 0) else (.vblank, n + 1)

/-- The exit of a mode goes to the next mode and line, keeps the count and LCDC, and leaves at most ten sprites cached. -/
theorem exitMode_ppu (s : State) :
    ((exitMode s).ppu.mode, (exitMode s).ppu.line) = nextLine s.ppu.mode s.ppu.line ∧
    (exitMode s).ppu.cnt = s.ppu.cnt ∧ (exitMode s).ppu.lcdc = s.ppu.lcdc ∧
    ((exitMode s).ppu.cache = s.ppu.cache ∨ (exitMode s).ppu.cache.length ≤ Config.spritesPerLine) := by
  unfold exitMode
  cases hm : s.ppu.mode <;> simp only
  · unfold exitHblank; split
    · rename_i h; rw [lineCompare_ppu]; refine ⟨?_, rfl, rfl, .inl rfl⟩
      simp only [nextLine, State.raise]; rw [if_pos h]
    · rename_i h; rw [lineCompare_ppu]; refine ⟨?_, rfl, rfl, .inl rfl⟩
      simp only [nextLine]; rw [if_neg h]
  · unfold endVblankLine; split
    · rename_i h; rw [lineCompare_ppu]; refine ⟨?_, rfl, rfl, .inl rfl⟩
      simp only [nextLine]; rw [if_pos h]
    · rename_i h; refine ⟨?_, rfl, rfl, .inl rfl⟩
      simp only [nextLine]; rw [if_neg h, hm]
  · unfold exitOamSearch; rw [lineCompare_ppu]; exact ⟨rfl, rfl, rfl, .inr (List.length_take_le _ _)⟩
  · unfold exitLineRender; rw [lineCompare_ppu]; exact ⟨rfl, rfl, rfl, .inl rfl⟩

/-- The exit of a mode does not look at the count. -/
theorem exitMode_withCnt (s : State) (n : Nat) : exitMode (s.withCnt n) = (exitMode s).withCnt n := by
  unfold exitMode
  rw [State.withCnt_mode]
  cases s.ppu.mode <;> simp only
  · unfold exitHblank
    rw [State.withCnt_line]
    split <;> rw [← lineCompare_withCnt] <;> rfl
  · unfold endVblankLine
    rw [State.withCnt_line]
    split
    · rw [← lineCompare_withCnt]; rfl
    · rfl
  · unfold exitOamSearch; rw [← lineCompare_withCnt]; rfl
  · unfold exitLineRender; rw [← lineCompare_withCnt]; rfl

theorem PpuOnly.exitMode (s : State) : PpuOnly s (exitMode s) := by
  unfold Machine.exitMode
  cases s.ppu.mode <;> simp only
  · unfold exitHblank
    split
    · exact PpuOnly.trans (t := State.raise { s with ppu := { s.ppu with mode := .vblank } } .vblank) rfl (.lineCompare _)
    · exact (PpuOnly.withPpu _ _).trans (.lineCompare _)
  · unfold endVblankLine
    split
    · exact (PpuOnly.withPpu _ _).trans (.lineCompare _)
    · exact .withPpu _ _
  · exact (PpuOnly.withPpu _ _).trans (.lineCompare _)
  · exact PpuOnly.trans
      (t := { renderLine s s.ppu.line with ppu := { s.ppu with line := s.ppu.line + 1, mode := .hblank } }) rfl
      (.lineCompare _)

/-- The exit of a mode leaves the pixel buffer alone but for the row that Line Render draws. -/
theorem exitMode_pb (s : State) :
    (exitMode s).pb = if s.ppu.mode = .lineRender then (renderLine s s.ppu.line).pb else s.pb := by
  have hk : ∀ t : State, (lineCompare t).pb = t.pb := fun t => by
    unfold lineCompare
    split
    · simp only; split <;> rfl
    · rfl
  unfold exitMode
  cases s.ppu.mode <;> simp only [reduceCtorEq, if_false, if_true]
  · unfold exitHblank; split
    · rw [hk]; rfl
    · rw [hk]
  · unfold endVblankLine; split
    · rw [hk]
    · rfl
  · unfold exitOamSearch; rw [hk]
  · unfold exitLineRender; rw [hk]

/-! ## The loop of a tick -/

/-- More turns than the count allows change nothing. -/
theorem tickLoop_fuel {n m : Nat} {s : State} (hn : s.ppu.cnt < 80 * (n + 1)) (hm : s.ppu.cnt < 80 * (m + 1)) :
    tickLoop n s = tickLoop m s := by
  induction n generalizing m s with
  | zero =>
    have hb := budget_ge s.ppu.mode
    cases m with
    | zero => rfl
    | succ m => simp only [tickLoop]; rw [if_neg (by omega)]
  | succ n ih =>
    have hb := budget_ge s.ppu.mode
    cases m with
    | zero => simp only [tickLoop]; rw [if_neg (by omega)]
    | succ m =>
      simp only [tickLoop]
      split
      · refine ih ?_ ?_ <;> rw [(exitMode_ppu _).2.1] <;> simp only <;> omega
      · rfl

/-- The loop of rule R251 run to its end. -/
def settle (s : State) : State := tickLoop (s.ppu.cnt / 80) s

/-- One turn of the loop. -/
theorem settle_eq (s : State) :
    settle s = if s.ppu.mode.budget ≤ s.ppu.cnt
      then settle ((exitMode s).withCnt (s.ppu.cnt - s.ppu.mode.budget)) else s := by
  have hb := budget_ge s.ppu.mode
  split
  · rename_i h
    rw [← exitMode_withCnt]
    conv_lhs => unfold settle
    obtain ⟨k, hk⟩ : ∃ k, s.ppu.cnt / 80 = k + 1 := ⟨s.ppu.cnt / 80 - 1, by omega⟩
    rw [hk]
    simp only [tickLoop]
    rw [if_pos h]
    have hc : (exitMode (s.withCnt (s.ppu.cnt - s.ppu.mode.budget))).ppu.cnt = s.ppu.cnt - s.ppu.mode.budget :=
      (exitMode_ppu _).2.1
    show tickLoop k (exitMode (s.withCnt _)) = settle (exitMode (s.withCnt _))
    exact tickLoop_fuel (by rw [hc]; omega) (by omega)
  · rename_i h
    unfold settle
    cases s.ppu.cnt / 80 with
    | zero => rfl
    | succ k => simp only [tickLoop]; rw [if_neg h]

/-- With output enabled a tick adds to the count and runs the loop. -/
theorem ppuTick_on {s : State} (h : s.ppu.lcdc.getLsbD 7 = true) (c : Nat) :
    ppuTick c s = settle (s.withCnt (s.ppu.cnt + c)) := by
  unfold ppuTick
  rw [if_pos (show s.ppu.lcdOn = true from h)]; rfl

/-- A property that every exit of a mode keeps, whatever the count, holds after the loop. -/
theorem settle_induct {P : State → Prop} (hexit : ∀ s n, P s → P ((exitMode s).withCnt n)) :
    ∀ s, P s → P (settle s) := by
  have key : ∀ n (s : State), s.ppu.cnt ≤ n → P s → P (settle s) := by
    intro n
    induction n with
    | zero =>
      intro s hs hp
      have hb := budget_ge s.ppu.mode
      rw [settle_eq, if_neg (by omega)]
      exact hp
    | succ n ih =>
      intro s hs hp
      have hb := budget_ge s.ppu.mode
      rw [settle_eq]
      split
      · refine ih _ ?_ (hexit _ _ hp)
        rw [State.withCnt_cnt]; omega
      · exact hp
  exact fun s => key _ s le_rfl

/-- The loop ends with the count below the mode's budget. -/
theorem settle_cnt_lt (s : State) : (settle s).ppu.cnt < (settle s).ppu.mode.budget := by
  have key : ∀ n (s : State), s.ppu.cnt ≤ n → (settle s).ppu.cnt < (settle s).ppu.mode.budget := by
    intro n
    induction n with
    | zero =>
      intro s hs
      have hb := budget_ge s.ppu.mode
      rw [settle_eq, if_neg (by omega)]
      omega
    | succ n ih =>
      intro s hs
      have hb := budget_ge s.ppu.mode
      rw [settle_eq]
      split
      · refine ih _ ?_
        rw [State.withCnt_cnt]; omega
      · rename_i h; omega
  exact key _ s le_rfl

/-- A tick changes the PPU, IF and the pixel buffer only. -/
theorem PpuOnly.ppuTick (c : Nat) (s : State) : PpuOnly s (ppuTick c s) := by
  by_cases h : s.ppu.lcdc.getLsbD 7 = true
  · rw [ppuTick_on h]
    exact settle_induct (P := fun t => PpuOnly s t)
      (fun t n ht => (ht.trans (.exitMode t)).trans (.withPpu _ _)) _ (.withPpu _ _)
  · unfold Machine.ppuTick
    rw [if_neg (show ¬s.ppu.lcdOn = true from h)]
    exact .withPpu _ _

/-! ## The external agent -/

theorem timerAgent_eq (e : AgentEvent) (s : State) :
    timerAgent e s = { s with ifReg := (timerAgent e s).ifReg } := by
  unfold timerAgent State.raiseIf
  split
  · split <;> rfl
  · rfl

theorem joypadAgent_eq (e : AgentEvent) (s : State) :
    joypadAgent e s = { s with ifReg := (joypadAgent e s).ifReg, buttons := (joypadAgent e s).buttons } := by
  unfold joypadAgent State.raiseIf
  split
  · cases e.buttons <;> cases e.joypad <;> rfl
  · rfl

theorem externalAgent_ppu (s : State) : (externalAgent s).ppu = s.ppu ∧ (externalAgent s).pb = s.pb := by
  unfold externalAgent
  split
  · exact ⟨rfl, rfl⟩
  · rw [joypadAgent_eq, timerAgent_eq]; exact ⟨rfl, rfl⟩

/-- What follows a CPU step: the CPU, the parameters, memory and the registers off the PPU keep their values. -/
def AfterStep (s t : State) : Prop :=
  t = { s with
    ifReg := t.ifReg
    ppu := t.ppu
    pb := t.pb
    buttons := t.buttons
    timerEpoch := t.timerEpoch
    agent := t.agent }

theorem AfterStep.externalAgent (s : State) : AfterStep s (externalAgent s) := by
  unfold Machine.externalAgent
  split
  · rfl
  · rw [joypadAgent_eq, timerAgent_eq]; rfl

theorem AfterStep.afterCpuStep (s : State) : AfterStep s (afterCpuStep s) := by
  have h1 : PpuOnly s (Machine.ppuTick s.cycles s) := .ppuTick _ _
  have h2 := AfterStep.externalAgent (Machine.ppuTick s.cycles s)
  show AfterStep s (Machine.externalAgent (Machine.ppuTick s.cycles s))
  revert h2 h1
  generalize Machine.externalAgent (Machine.ppuTick s.cycles s) = u
  generalize Machine.ppuTick s.cycles s = t
  intro h1 h2
  unfold AfterStep PpuOnly at *
  rw [h1] at h2
  exact h2

end Sys2Proof.Machine
end

