-- ==== Sys2Proof/Laws/Render.lean ====
section
/-! SUPPORT. Laws/Render.lean: what the renderer puts on a column: the colour of a tile's pixel as a number, one sprite's
column, one sprite, and the cached sprites over a row. -/

namespace Sys2Proof.Machine

/-! ## Colours as numbers -/

/-- A colour index is twice the high plane's bit plus the low plane's (rule R258). -/
theorem tilePixel_toNat (s : State) (addr r k : Nat) :
    (tilePixel s addr r k).toNat =
      2 * ((s.ram.read (addr + 2 * r + 1)).getLsbD (7 - k)).toNat + ((s.ram.read (addr + 2 * r)).getLsbD (7 - k)).toNat := by
  unfold tilePixel State.vramByte
  cases (s.ram.read (addr + 2 * r + 1)).getLsbD (7 - k) <;> cases (s.ram.read (addr + 2 * r)).getLsbD (7 - k) <;> rfl

/-- The ramp is the list of the four shades (rule R261). -/
theorem shadeOf_list (sh : Shades) (v : Colour) : [sh.s0, sh.s1, sh.s2, sh.s3][v.toNat]? = some (shadeOf sh v) := by
  revert v
  exact fun v => match v with
    | 0#2 => rfl
    | 1#2 => rfl
    | 2#2 => rfl
    | 3#2 => rfl

/-- A palette register's entry as a number (rule R261). -/
theorem paletteEntry_toNat (pal : Byte) (v : Colour) : (paletteEntry pal v).toNat = (pal >>> (2 * v.toNat)).toNat % 4 := by
  simp [paletteEntry]

/-- The RGB entry of a pixel: the ramp at its colour, or at its layer's palette entry (rule R261). -/
theorem pixelRgb_list (s : State) (x : Pixel) :
    [s.cfg.shade.s0, s.cfg.shade.s1, s.cfg.shade.s2, s.cfg.shade.s3][
        match s.cfg.palette with
        | .direct => x.colour.toNat
        | .register => (layerPalette s.ppu x.layer >>> (2 * x.colour.toNat)).toNat % 4]? = some (pixelRgb s x) := by
  unfold pixelRgb
  cases s.cfg.palette with
  | direct => exact shadeOf_list _ _
  | register => simp only; rw [← paletteEntry_toNat, shadeOf_list]

/-- The palette register of a sprite: OBP1 with attribute bit 4 (rule R261). -/
theorem layerPalette_sprite (p : Ppu) (o : Sprite) : layerPalette p o.layer = if o.attr.getLsbD 4 then p.obp1 else p.obp0 := by
  unfold Sprite.layer
  split <;> rfl

/-! ## Background and window -/

/-- What lies under the sprites: the window's pixel where it is active and covers the column, else the background's (rules
R259, R261). -/
theorem basePixel_colour (s : State) (line px : Nat) :
    (basePixel s line px).colour =
      if s.ppu.lcdc.getLsbD 5 = true ∧ s.ppu.wy.toNat ≤ line ∧ s.ppu.wx.toNat ≤ px + 7 then winPixel s px line
      else bgPixel s px line := by
  unfold basePixel windowActive
  simp only [Bool.and_eq_true, decide_eq_true_eq, and_assoc]

/-! ## Sprites -/

/-- The colour a sprite puts on column `px` of the line: its own column's colour where it reaches, else 0 (rule R260). -/
def spriteInk (s : State) (line : Nat) (o : Sprite) (px : Nat) : Colour :=
  if o.x.toNat ≤ px + 8 ∧ px < o.x.toNat then spriteColour s line o (px + 8 - o.x.toNat) else 0

/-- A sprite's ink read from its tile: always the unsigned mode, the row counted from its top, the columns reversed by
attribute bit 5 (rule R260). -/
theorem spriteInk_toNat (s : State) (line : Nat) (o : Sprite) (px : Nat) :
    (spriteInk s line o px).toNat =
      if o.x.toNat ≤ px + 8 ∧ px < o.x.toNat then
        (tilePixel s (0x8000 + 16 * o.tile.toNat) (line + 16 - o.y.toNat)
          (if o.attr.getLsbD 5 then 7 - (px + 8 - o.x.toNat) else px + 8 - o.x.toNat)).toNat
      else 0 := by
  unfold spriteInk
  split <;> rfl

/-- One column of a sprite changes the one entry of the row it falls on, unless its colour is 0. -/
theorem drawSpriteColumn_getElem? (s : State) (line : Nat) (o : Sprite) (row : List Pixel) (c px : Nat) (h : px < row.length) :
    (drawSpriteColumn s line o row c)[px]? =
      if o.x.toNat ≤ px + 8 ∧ px + 8 - o.x.toNat = c ∧ spriteColour s line o c ≠ 0 then
        some { colour := spriteColour s line o c, layer := o.layer } else row[px]? := by
  unfold drawSpriteColumn
  by_cases h0 : o.x.toNat + c < 8
  · rw [if_pos h0, if_neg (by omega)]
  · rw [if_neg h0]
    by_cases hv : spriteColour s line o c = 0
    · rw [if_pos hv, if_neg (fun hh => hh.2.2 hv)]
    · rw [if_neg hv, List.getElem?_set]
      by_cases hp : o.x.toNat + c - 8 = px
      · rw [if_pos hp, if_pos (by omega), if_pos ⟨by omega, by omega, hv⟩]
      · rw [if_neg hp, if_neg (by omega)]

/-- The columns of a list, drawn in any order. -/
theorem drawSpriteColumns_getElem? (s : State) (line : Nat) (o : Sprite) (cs : List Nat) (row : List Pixel) (px : Nat)
    (h : px < row.length) :
    (cs.foldl (drawSpriteColumn s line o) row)[px]? =
      if o.x.toNat ≤ px + 8 ∧ px + 8 - o.x.toNat ∈ cs ∧ spriteColour s line o (px + 8 - o.x.toNat) ≠ 0 then
        some { colour := spriteColour s line o (px + 8 - o.x.toNat), layer := o.layer } else row[px]? := by
  induction cs generalizing row with
  | nil => simp
  | cons c cs ih =>
    rw [List.foldl_cons, ih _ (by rw [drawSpriteColumn_length]; exact h), drawSpriteColumn_getElem? s line o row c px h]
    by_cases hc : px + 8 - o.x.toNat = c
    · subst hc
      by_cases h1 : o.x.toNat ≤ px + 8 <;> by_cases h2 : spriteColour s line o (px + 8 - o.x.toNat) = 0 <;>
        simp only [h1, h2, ne_eq, not_true_eq_false, not_false_eq_true, List.mem_cons, true_or, and_true, and_false, and_self,
          false_and, if_true, if_false, ite_self]
    · simp [hc]

/-- A sprite puts its ink on the columns it inks and leaves every other entry. -/
theorem drawSprite_getElem? (s : State) (line : Nat) (row : List Pixel) (o : Sprite) (px : Nat) (h : px < row.length) :
    (drawSprite s line row o)[px]? =
      if spriteInk s line o px ≠ 0 then some { colour := spriteInk s line o px, layer := o.layer } else row[px]? := by
  unfold drawSprite
  rw [drawSpriteColumns_getElem? s line o _ row px h]
  have hm : px + 8 - o.x.toNat ∈ [0, 1, 2, 3, 4, 5, 6, 7] ↔ px + 8 - o.x.toNat < 8 := by
    simp only [List.mem_cons, List.not_mem_nil, or_false]; omega
  simp only [hm]
  unfold spriteInk
  by_cases hr : o.x.toNat ≤ px + 8 ∧ px < o.x.toNat
  · rw [if_pos hr]
    by_cases hv : spriteColour s line o (px + 8 - o.x.toNat) = 0
    · rw [if_neg (fun hh => hh.2.2 hv), if_neg (fun hh => hh hv)]
    · rw [if_pos ⟨hr.1, by omega, hv⟩, if_pos hv]
  · rw [if_neg hr, if_neg (by omega), if_neg (fun hh => hh rfl)]

/-- Sprites that put nothing on a column leave its entry. -/
theorem foldl_drawSprite_none (s : State) (line : Nat) (l : List Sprite) (row : List Pixel) (px : Nat) (h : px < row.length)
    (hn : ∀ o ∈ l, spriteInk s line o px = 0) : (l.foldl (drawSprite s line) row)[px]? = row[px]? := by
  induction l generalizing row with
  | nil => rfl
  | cons o l ih =>
    rw [List.foldl_cons, ih _ (by rw [drawSprite_length]; exact h) (fun q hq => hn q (List.mem_cons_of_mem _ hq)),
      drawSprite_getElem? s line row o px h, if_neg (fun hh => hh (hn o List.mem_cons_self))]

/-- The last sprite that inks a column gives its entry. -/
theorem foldl_drawSprite_last (s : State) (line : Nat) (before after : List Sprite) (o : Sprite) (row : List Pixel) (px : Nat)
    (h : px < row.length) (ho : spriteInk s line o px ≠ 0) (hn : ∀ q ∈ after, spriteInk s line q px = 0) :
    ((before ++ o :: after).foldl (drawSprite s line) row)[px]? =
      some { colour := spriteInk s line o px, layer := o.layer } := by
  have hl : (before.foldl (drawSprite s line) row).length = row.length := by
    induction before generalizing row with
    | nil => rfl
    | cons q l ih => rw [List.foldl_cons, ih _ (by rw [drawSprite_length]; exact h), drawSprite_length]
  rw [List.foldl_append, List.foldl_cons, foldl_drawSprite_none s line after _ px (by rw [drawSprite_length, hl]; exact h) hn,
    drawSprite_getElem? s line _ o px (by rw [hl]; exact h), if_pos ho]

/-! ## A row -/

/-- A column on which no sprite puts anything, or any column with sprites off, shows background or window (rule R261). -/
theorem renderRow_under (s : State) (line px : Nat) (h : px < Config.columns)
    (hn : s.ppu.lcdc.getLsbD 1 = false ∨ ∀ o ∈ s.ppu.cache, spriteInk s line o px = 0) :
    (renderRow s line)[px]? = some (basePixel s line px) := by
  have hb : ((List.range Config.columns).map (basePixel s line))[px]? = some (basePixel s line px) := by simp [h]
  unfold renderRow drawSprites
  simp only
  split
  · rename_i hs
    rw [foldl_drawSprite_none s line _ _ px (by simpa using h) (hn.resolve_left (by simp [hs])), hb]
  · exact hb

/-- With sprites on, the last cached sprite that inks a column is what it shows (rule R260). -/
theorem renderRow_sprite (s : State) (line px : Nat) (h : px < Config.columns) (hs : s.ppu.lcdc.getLsbD 1 = true)
    {before after : List Sprite} {o : Sprite} (hc : s.ppu.cache = before ++ o :: after) (ho : spriteInk s line o px ≠ 0)
    (hn : ∀ q ∈ after, spriteInk s line q px = 0) :
    (renderRow s line)[px]? = some { colour := spriteInk s line o px, layer := o.layer } := by
  unfold renderRow drawSprites
  simp only [hs, if_true, hc]
  exact foldl_drawSprite_last s line before after o _ px (by simpa using h) ho hn

end Sys2Proof.Machine
end

