-- ==== Sys2Proof/Tests/Slice0.lean ====
section
/-! SUPPORT. Tests/Slice0.lean: decoding against the opcode maps of rules R98 and R99, configurations the checks refuse,
single steps with the results 95_test_vectors.md gives, and a witness for the hypotheses of every statement. -/

namespace Sys2Proof.Tests

open Sys2Proof Sys2Proof.Machine

/-! ## Decoding: the grid of rule R98, and rule R99 -/

/-- One row of the grid: sixteen first bytes from `op`, each followed by 0xCD and 0xAB. -/
def mapRow (op : Byte) : List Instr :=
  (List.range 16).map fun k => decodeOp (op + BitVec.ofNat 8 k) 0xCD 0xAB

/-- Sixteen second bytes from `sub` after the prefix. -/
def prefixedRow (sub : Byte) : List Instr :=
  (List.range 16).map fun k => decodeOp 0xCB (sub + BitVec.ofNat 8 k) 0xAB

theorem test_decode_0x : mapRow 0x00 =
    [.nop, .ldBcD16 0xABCD, .ldMemBcA, .incBc, .incB, .decB, .ldBD8 0xCD, .rlca, .ldMemA16Sp 0xABCD, .addHlBc,
     .ldAMemBc, .decBc, .incC, .decC, .ldCD8 0xCD, .rrca] := by
  rfl

theorem test_decode_1x : mapRow 0x10 =
    [.stop 0xCD, .ldDeD16 0xABCD, .ldMemDeA, .incDe, .incD, .decD, .ldDD8 0xCD, .rla, .jrE8 0xCD, .addHlDe,
     .ldAMemDe, .decDe, .incE, .decE, .ldED8 0xCD, .rra] := by
  rfl

theorem test_decode_2x : mapRow 0x20 =
    [.jrNzE8 0xCD, .ldHlD16 0xABCD, .ldMemHlIncA, .incHl, .incH, .decH, .ldHD8 0xCD, .daa, .jrZE8 0xCD, .addHlHl,
     .ldAMemHlInc, .decHl, .incL, .decL, .ldLD8 0xCD, .cpl] := by
  rfl

theorem test_decode_3x : mapRow 0x30 =
    [.jrNcE8 0xCD, .ldSpD16 0xABCD, .ldMemHlDecA, .incSp, .incMemHl, .decMemHl, .ldMemHlD8 0xCD, .scf,
     .jrCE8 0xCD, .addHlSp, .ldAMemHlDec, .decSp, .incA, .decA, .ldAD8 0xCD, .ccf] := by
  rfl

theorem test_decode_4x : mapRow 0x40 =
    [.ldBB, .ldBC, .ldBD, .ldBE, .ldBH, .ldBL, .ldBMemHl, .ldBA, .ldCB, .ldCC, .ldCD, .ldCE, .ldCH, .ldCL,
     .ldCMemHl, .ldCA] := by
  rfl

theorem test_decode_5x : mapRow 0x50 =
    [.ldDB, .ldDC, .ldDD, .ldDE, .ldDH, .ldDL, .ldDMemHl, .ldDA, .ldEB, .ldEC, .ldED, .ldEE, .ldEH, .ldEL,
     .ldEMemHl, .ldEA] := by
  rfl

theorem test_decode_6x : mapRow 0x60 =
    [.ldHB, .ldHC, .ldHD, .ldHE, .ldHH, .ldHL, .ldHMemHl, .ldHA, .ldLB, .ldLC, .ldLD, .ldLE, .ldLH, .ldLL,
     .ldLMemHl, .ldLA] := by
  rfl

theorem test_decode_7x : mapRow 0x70 =
    [.ldMemHlB, .ldMemHlC, .ldMemHlD, .ldMemHlE, .ldMemHlH, .ldMemHlL, .halt, .ldMemHlA, .ldAB, .ldAC, .ldAD,
     .ldAE, .ldAH, .ldAL, .ldAMemHl, .ldAA] := by
  rfl

theorem test_decode_8x : mapRow 0x80 =
    [.addAB, .addAC, .addAD, .addAE, .addAH, .addAL, .addAMemHl, .addAA, .adcAB, .adcAC, .adcAD, .adcAE, .adcAH,
     .adcAL, .adcAMemHl, .adcAA] := by
  rfl

theorem test_decode_9x : mapRow 0x90 =
    [.subB, .subC, .subD, .subE, .subH, .subL, .subMemHl, .subA, .sbcAB, .sbcAC, .sbcAD, .sbcAE, .sbcAH, .sbcAL,
     .sbcAMemHl, .sbcAA] := by
  rfl

theorem test_decode_Ax : mapRow 0xA0 =
    [.andB, .andC, .andD, .andE, .andH, .andL, .andMemHl, .andA, .xorB, .xorC, .xorD, .xorE, .xorH, .xorL,
     .xorMemHl, .xorA] := by
  rfl

theorem test_decode_Bx : mapRow 0xB0 =
    [.orB, .orC, .orD, .orE, .orH, .orL, .orMemHl, .orA, .cpB, .cpC, .cpD, .cpE, .cpH, .cpL, .cpMemHl, .cpA] := by
  rfl

theorem test_decode_Cx : mapRow 0xC0 =
    [.retNz, .popBc, .jpNzA16 0xABCD, .jpA16 0xABCD, .callNzA16 0xABCD, .pushBc, .addAD8 0xCD, .rst00, .retZ,
     .ret, .jpZA16 0xABCD, .set1L, .callZA16 0xABCD, .callA16 0xABCD, .adcAD8 0xCD, .rst08] := by
  rfl

theorem test_decode_Dx : mapRow 0xD0 =
    [.retNc, .popDe, .jpNcA16 0xABCD, .unrecognizedD3, .callNcA16 0xABCD, .pushDe, .subD8 0xCD, .rst10, .retC,
     .reti, .jpCA16 0xABCD, .unrecognizedDB, .callCA16 0xABCD, .unrecognizedDD, .sbcAD8 0xCD, .rst18] := by
  rfl

theorem test_decode_Ex : mapRow 0xE0 =
    [.ldhMemA8A 0xCD, .popHl, .ldMemCA, .unrecognizedE3, .unrecognizedE4, .pushHl, .andD8 0xCD, .rst20,
     .addSpE8 0xCD, .jpHl, .ldMemA16A 0xABCD, .unrecognizedEB, .unrecognizedEC, .unrecognizedED, .xorD8 0xCD,
     .rst28] := by
  rfl

theorem test_decode_Fx : mapRow 0xF0 =
    [.ldhAMemA8 0xCD, .popAf, .ldAMemC, .di, .unrecognizedF4, .pushAf, .orD8 0xCD, .rst30, .ldHlSpE8 0xCD,
     .ldSpHl, .ldAMemA16 0xABCD, .ei, .unrecognizedFC, .unrecognizedFD, .cpD8 0xCD, .rst38] := by
  rfl

theorem test_decode_cb_0x : prefixedRow 0x00 =
    [.rlcB, .rlcC, .rlcD, .rlcE, .rlcH, .rlcL, .rlcMemHl, .rlcA, .rrcB, .rrcC, .rrcD, .rrcE, .rrcH, .rrcL,
     .rrcMemHl, .rrcA] := by
  rfl

theorem test_decode_cb_1x : prefixedRow 0x10 =
    [.rlB, .rlC, .rlD, .rlE, .rlH, .rlL, .rlMemHl, .rlA, .rrB, .rrC, .rrD, .rrE, .rrH, .rrL, .rrMemHl, .rrA] := by
  rfl

theorem test_decode_cb_2x : prefixedRow 0x20 =
    [.slaB, .slaC, .slaD, .slaE, .slaH, .slaL, .slaMemHl, .slaA, .sraB, .sraC, .sraD, .sraE, .sraH, .sraL,
     .sraMemHl, .sraA] := by
  rfl

theorem test_decode_cb_3x : prefixedRow 0x30 =
    [.swapB, .swapC, .swapD, .swapE, .swapH, .swapL, .swapMemHl, .swapA, .srlB, .srlC, .srlD, .srlE, .srlH,
     .srlL, .srlMemHl, .srlA] := by
  rfl

theorem test_decode_cb_4x : prefixedRow 0x40 =
    [.bit0B, .bit0C, .bit0D, .bit0E, .bit0H, .bit0L, .bit0MemHl, .bit0A, .bit1B, .bit1C, .bit1D, .bit1E, .bit1H,
     .bit1L, .bit1MemHl, .bit1A] := by
  rfl

theorem test_decode_cb_5x : prefixedRow 0x50 =
    [.bit2B, .bit2C, .bit2D, .bit2E, .bit2H, .bit2L, .bit2MemHl, .bit2A, .bit3B, .bit3C, .bit3D, .bit3E, .bit3H,
     .bit3L, .bit3MemHl, .bit3A] := by
  rfl

theorem test_decode_cb_6x : prefixedRow 0x60 =
    [.bit4B, .bit4C, .bit4D, .bit4E, .bit4H, .bit4L, .bit4MemHl, .bit4A, .bit5B, .bit5C, .bit5D, .bit5E, .bit5H,
     .bit5L, .bit5MemHl, .bit5A] := by
  rfl

theorem test_decode_cb_7x : prefixedRow 0x70 =
    [.bit6B, .bit6C, .bit6D, .bit6E, .bit6H, .bit6L, .bit6MemHl, .bit6A, .bit7B, .bit7C, .bit7D, .bit7E, .bit7H,
     .bit7L, .bit7MemHl, .bit7A] := by
  rfl

theorem test_decode_cb_8x : prefixedRow 0x80 =
    [.res0B, .res0C, .res0D, .res0E, .res0H, .res0L, .res0MemHl, .res0A, .res1B, .res1C, .res1D, .res1E, .res1H,
     .res1L, .res1MemHl, .res1A] := by
  rfl

theorem test_decode_cb_9x : prefixedRow 0x90 =
    [.res2B, .res2C, .res2D, .res2E, .res2H, .res2L, .res2MemHl, .res2A, .res3B, .res3C, .res3D, .res3E, .res3H,
     .res3L, .res3MemHl, .res3A] := by
  rfl

theorem test_decode_cb_Ax : prefixedRow 0xA0 =
    [.res4B, .res4C, .res4D, .res4E, .res4H, .res4L, .res4MemHl, .res4A, .res5B, .res5C, .res5D, .res5E, .res5H,
     .res5L, .res5MemHl, .res5A] := by
  rfl

theorem test_decode_cb_Bx : prefixedRow 0xB0 =
    [.res6B, .res6C, .res6D, .res6E, .res6H, .res6L, .res6MemHl, .res6A, .res7B, .res7C, .res7D, .res7E, .res7H,
     .res7L, .res7MemHl, .res7A] := by
  rfl

theorem test_decode_cb_Cx : prefixedRow 0xC0 =
    [.set0B, .set0C, .set0D, .set0E, .set0H, .set0L, .set0MemHl, .set0A, .set1B, .set1C, .set1D, .set1E, .set1H,
     .set1L, .set1MemHl, .set1A] := by
  rfl

theorem test_decode_cb_Dx : prefixedRow 0xD0 =
    [.set2B, .set2C, .set2D, .set2E, .set2H, .set2L, .set2MemHl, .set2A, .set3B, .set3C, .set3D, .set3E, .set3H,
     .set3L, .set3MemHl, .set3A] := by
  rfl

theorem test_decode_cb_Ex : prefixedRow 0xE0 =
    [.set4B, .set4C, .set4D, .set4E, .set4H, .set4L, .set4MemHl, .set4A, .set5B, .set5C, .set5D, .set5E, .set5H,
     .set5L, .set5MemHl, .set5A] := by
  rfl

theorem test_decode_cb_Fx : prefixedRow 0xF0 =
    [.set6B, .set6C, .set6D, .set6E, .set6H, .set6L, .set6MemHl, .set6A, .set7B, .set7C, .set7D, .set7E, .set7H,
     .set7L, .set7MemHl, .set7A] := by
  rfl

/-! ## Decoding: words written out field by field (rules R91 to R99) -/

/-- A base opcode from its fields x, y, z (rule R91). -/
def opcodeXYZ (x : BitVec 2) (y z : BitVec 3) : Byte := x ++ y ++ z

theorem test_word_ld_d_memhl : decode [opcodeXYZ 0b01 0b010 0b110] = .ok (.ldDMemHl, []) := by rfl
theorem test_word_ld_de_d16 : decode [opcodeXYZ 0b00 0b010 0b001, 0x34, 0x12] = .ok (.ldDeD16 0x1234, []) := by rfl
theorem test_word_xor_e : decode [opcodeXYZ 0b10 0b101 0b011] = .ok (.xorE, []) := by rfl
theorem test_word_sbc_d8 : decode [opcodeXYZ 0b11 0b011 0b110, 0x7F] = .ok (.sbcAD8 0x7F, []) := by rfl
theorem test_word_add_hl_sp : decode [opcodeXYZ 0b00 0b111 0b001] = .ok (.addHlSp, []) := by rfl
theorem test_word_rrca : decode [opcodeXYZ 0b00 0b001 0b111] = .ok (.rrca, []) := by rfl
theorem test_word_sra_h : decode [0xCB, opcodeXYZ 0b00 0b101 0b100] = .ok (.sraH, []) := by rfl
theorem test_word_res_5_memhl : decode [0xCB, opcodeXYZ 0b10 0b101 0b110] = .ok (.res5MemHl, []) := by rfl
theorem test_word_jp_nc : decode [opcodeXYZ 0b11 0b010 0b010, 0x00, 0x80] = .ok (.jpNcA16 0x8000, []) := by rfl
theorem test_word_rst_18 : decode [opcodeXYZ 0b11 0b011 0b111] = .ok (.rst18, []) := by rfl
theorem test_word_ei : decode [opcodeXYZ 0b11 0b111 0b011] = .ok (.ei, []) := by rfl

/-! ## The checks of WellFormed.lean refuse an ill-formed configuration

A term of `Instr` cannot be ill-formed: `Instr.wellFormed` is `true` on all of them, since the operands have the widths of
the format (rules R91, R105). -/

theorem test_wf_default : Config.default.wellFormed = true := by decide
theorem test_wf_boot_rom_too_long : Config.wellFormed { Config.default with bootRom := [(0x100, 1)] } = false := by decide
theorem test_wf_boot_rom_not_canonical :
    Config.wellFormed { Config.default with bootRom := [(2, 1), (1, 1)] } = false := by decide
theorem test_wf_cart_past_end : Config.wellFormed { Config.default with cartRom := [(0x8000, 1)] } = false := by decide
theorem test_wf_cart_too_short : Config.wellFormed { Config.default with cartLen := 0x7FFF } = false := by decide
theorem test_wf_type_byte_disagrees : Config.wellFormed { Config.default with cartType := .banked } = false := by decide
theorem test_wf_prefix_moved : Config.wellFormed { Config.default with prefixByte := 0xDD } = false := by decide
theorem test_wf_cyc_too_short : Config.wellFormed { Config.default with cyc := [[4, 12]] } = false := by decide
theorem test_wf_cyc_cb_too_long : Config.wellFormed { Config.default with cycCb := List.replicate 16 (List.replicate 17 8) } = false := by decide
theorem test_wf_unrecognized_cost_disagrees : Config.wellFormed { Config.default with cycUnrecognized := 8 } = false := by decide
theorem test_wf_extras_not_canonical :
    Config.wellFormed { Config.default with cycTakenExtra := [(0x28, 4), (0x20, 4)] } = false := by decide
theorem test_wf_extra_past_the_bytes :
    Config.wellFormed { Config.default with cycTakenExtra := [(0x120, 4)] } = false := by decide
theorem test_wf_zero_listed :
    Config.wellFormed { Config.default with init := { Config.defaultInit with ram := [(0xC000, 0)] } } = false := by decide
theorem test_wf_row_too_short :
    Config.wellFormed { Config.default with init := { Config.defaultInit with pb := [(0, [⟨1, 1, 1⟩])] } } = false := by
  decide
theorem test_cartridge_type_refused : Config.default.withCartridge? [(0x147, 2)] 0x8000 = none := by decide
theorem test_cartridge_banked :
    (Config.default.withCartridge? [(0x147, 1)] 0x10000).map Config.cartType = some .banked := by decide

/-! ## Single steps with the results of 95_test_vectors.md -/

/-- The vectors' starting state: boot ROM unmapped, PPU in HBlank with output off, internal timer storage, no joypad. -/
def base : State :=
  { State.resetWith { Config.default with timer := .none, joypad := .none } [] with
    bootMapped := false, ppu := { Ppu.reset with mode := .hblank } }

/-- Puts a byte at a bus address, into the image where it is ROM. -/
def put (s : State) (a : Word) (v : Byte) : State := s.poke a v

/-- Puts bytes at rising bus addresses. -/
def putAll (s : State) (a : Word) : List Byte → State
  | [] => s
  | v :: l => putAll (put s a v) (a + 1) l

/-- An instruction at 0x0100 and `pc` there. -/
def code (bs : List Byte) (s : State) : State := (putAll s 0x0100 bs).setPc 0x0100

/-- Sets IE. -/
def setIe (s : State) (v : Byte) : State := { s with ieReg := v }

/-- Sets IF. -/
def setIf (s : State) (v : Byte) : State := { s with ifReg := v }

/-- Sets the PPU's mode. -/
def setMode (s : State) (m : Mode) : State := { s with ppu := { s.ppu with mode := m } }

/-- What a bus read gives, if it does not stop. -/
def readByte (s : State) (a : Word) : Option Byte :=
  match busRead s a with
  | .ok v => some v
  | .error _ => none

/-- A bus read gives a byte. -/
abbrev reads (s : State) (a : Word) (v : Byte) : Prop := readByte s a = some v

/-- A result is a next state with property `p`. -/
def Ends (r : Result) (p : State → Bool) : Bool :=
  match r with
  | .next t => p t
  | .fault _ => false
  | .refused _ => false

/-- The CPU step answers a next state with property `p`. -/
def Gives (s : State) (p : State → Bool) : Bool := Ends (cpuStep s) p

theorem test_ld_b_c :
    Gives (State.setFlags (State.setReg (State.setReg (code [0x41] base) .b 0x11) .c 0x22) (Flags.ofByte 0xF0)) fun t =>
      t.cycles = 4 ∧ t.cpu.b = 0x22 ∧ t.f = 0xF0 ∧ t.cpu.pc = 0x0101 := by
  rfl

theorem test_ld_memhl_d8 :
    Gives (State.setRr (code [0x36, 0x99] base) .hl 0xC300) fun t =>
      t.cycles = 12 ∧ reads t 0xC300 0x99 ∧ t.cpu.pc = 0x0102 := by
  rfl

theorem test_ld_memhl_h :
    Gives (State.setRr (code [0x74] base) .hl 0xC2C2) fun t =>
      t.cycles = 8 ∧ reads t 0xC2C2 0xC2 := by
  rfl

theorem test_ld_memhlinc_a :
    Gives (State.setRr (State.setReg (code [0x22] base) .a 0x01) .hl 0xC0FF) fun t =>
      t.cycles = 8 ∧ reads t 0xC0FF 0x01 ∧ t.hl = 0xC100 := by
  rfl

theorem test_ld_a_memhlinc_wraps :
    Gives (State.setRr (put (code [0x2A] base) 0xFFFF 0x1F) .hl 0xFFFF) fun t =>
      t.cycles = 8 ∧ t.cpu.a = 0x1F ∧ t.hl = 0x0000 := by
  rfl

theorem test_ld_a_memhldec_wraps :
    Gives (State.setRr (put (code [0x3A] base) 0x0000 0x31) .hl 0x0000) fun t =>
      t.cycles = 8 ∧ t.cpu.a = 0x31 ∧ t.hl = 0xFFFF := by
  rfl

theorem test_ld_a_memc :
    Gives (State.setReg (put (code [0xF2] base) 0xFF81 0x68) .c 0x81) fun t =>
      t.cycles = 8 ∧ t.cpu.a = 0x68 := by
  rfl

theorem test_ldh_mema8_a :
    Gives (State.setReg (code [0xE0, 0x80] base) .a 0x67) fun t =>
      t.cycles = 12 ∧ reads t 0xFF80 0x67 := by
  rfl

theorem test_ld_mema16_a :
    Gives (State.setReg (code [0xEA, 0x34, 0xC2] base) .a 0xE1) fun t =>
      t.cycles = 16 ∧ reads t 0xC234 0xE1 ∧ t.cpu.pc = 0x0103 := by
  rfl

theorem test_store_to_rom_is_dropped :
    Gives (State.setRr (State.setReg (code [0x70] base) .b 0x3C) .hl 0x0000) fun t =>
      t.cycles = 8 ∧ reads t 0x0000 0x00 := by
  rfl

theorem test_ld_mema16_sp :
    Gives (State.setRr (code [0x08, 0xFF, 0xDF] base) .sp 0x1234) fun t =>
      t.cycles = 20 ∧ reads t 0xDFFF 0x34 ∧ reads t 0xE000 0x12 := by
  rfl

theorem test_ld_hl_sp_e8 :
    Gives (State.setFlags (State.setRr (code [0xF8, 0x08] base) .sp 0xFFF8) (Flags.ofByte 0x00)) fun t =>
      t.cycles = 12 ∧ t.hl = 0x0000 ∧ t.f = 0x30 := by
  rfl

theorem test_ld_hl_sp_minus_one :
    Gives (State.setRr (code [0xF8, 0xFF] base) .sp 0x0001) fun t =>
      t.cycles = 12 ∧ t.hl = 0x0000 ∧ t.f = 0x30 := by
  rfl

theorem test_push_hl_wraps :
    Gives (State.setRr (State.setRr (code [0xE5] base) .hl 0xBEEF) .sp 0x0001) fun t =>
      t.cycles = 16 ∧ reads t 0xFFFF 0xEF ∧ t.cpu.sp = 0xFFFF := by
  rfl

theorem test_pop_af_drops_low_nibble :
    Gives (State.setRr (put (put (code [0xF1] base) 0xC000 0x0F) 0xC001 0x00) .sp 0xC000) fun t =>
      t.cycles = 12 ∧ t.cpu.a = 0x00 ∧ t.f = 0x00 := by
  rfl

theorem test_add_wraps :
    Gives (State.setFlags (State.setReg (code [0xC6, 0x01] base) .a 0xFF) (Flags.ofByte 0x00)) fun t =>
      t.cycles = 8 ∧ t.cpu.a = 0x00 ∧ t.f = 0xB0 := by
  rfl

theorem test_adc_d8 :
    Gives (State.setFlags (State.setReg (code [0xCE, 0xFF] base) .a 0x01) (Flags.ofByte 0x00)) fun t =>
      t.cycles = 8 ∧ t.cpu.a = 0x00 ∧ t.f = 0xB0 := by
  rfl

theorem test_sbc_half_borrow :
    Gives (State.setFlags (State.setReg (State.setReg (code [0x98] base) .a 0x10) .b 0x0F) (Flags.ofByte 0x10)) fun t =>
      t.cycles = 4 ∧ t.cpu.a = 0x00 ∧ t.f = 0xE0 := by
  rfl

theorem test_sub_borrow :
    Gives (State.setFlags (State.setReg (code [0xD6, 0x01] base) .a 0x00) (Flags.ofByte 0x00)) fun t =>
      t.cycles = 8 ∧ t.cpu.a = 0xFF ∧ t.f = 0x70 := by
  rfl

theorem test_and_d8 :
    Gives (State.setFlags (State.setReg (code [0xE6, 0x0F] base) .a 0xF0) (Flags.ofByte 0x50)) fun t =>
      t.cycles = 8 ∧ t.cpu.a = 0x00 ∧ t.f = 0xA0 := by
  rfl

theorem test_or_b :
    Gives (State.setFlags (State.setReg (State.setReg (code [0xB0] base) .a 0x50) .b 0x0A) (Flags.ofByte 0xF0)) fun t =>
      t.cycles = 4 ∧ t.cpu.a = 0x5A ∧ t.f = 0x00 := by
  rfl

theorem test_xor_a :
    Gives (State.setFlags (State.setReg (code [0xAF] base) .a 0x37) (Flags.ofByte 0xF0)) fun t =>
      t.cycles = 4 ∧ t.cpu.a = 0x00 ∧ t.f = 0x80 := by
  rfl

theorem test_cp_keeps_a :
    Gives (State.setFlags (State.setReg (code [0xFE, 0x40] base) .a 0x3C) (Flags.ofByte 0x00)) fun t =>
      t.cycles = 8 ∧ t.cpu.a = 0x3C ∧ t.f = 0x50 := by
  rfl

theorem test_inc_memhl :
    Gives (State.setFlags (State.setRr (put (code [0x34] base) 0xC000 0xFF) .hl 0xC000) (Flags.ofByte 0x00)) fun t =>
      t.cycles = 12 ∧ reads t 0xC000 0x00 ∧ t.f = 0xA0 := by
  rfl

theorem test_dec_l :
    Gives (State.setFlags (State.setReg (code [0x2D] base) .l 0x10) (Flags.ofByte 0x80)) fun t =>
      t.cycles = 4 ∧ t.cpu.l = 0x0F ∧ t.f = 0x60 := by
  rfl

theorem test_daa_after_add :
    Gives (State.setFlags (State.setReg (code [0x27] base) .a 0x9A) (Flags.ofByte 0x00)) fun t =>
      t.cycles = 4 ∧ t.cpu.a = 0x00 ∧ t.f = 0x90 := by
  rfl

theorem test_daa_after_sub :
    Gives (State.setFlags (State.setReg (code [0x27] base) .a 0x66) (Flags.ofByte 0x70)) fun t =>
      t.cycles = 4 ∧ t.cpu.a = 0x00 ∧ t.f = 0xD0 := by
  rfl

theorem test_cpl :
    Gives (State.setFlags (State.setReg (code [0x2F] base) .a 0x35) (Flags.ofByte 0x90)) fun t =>
      t.cycles = 4 ∧ t.cpu.a = 0xCA ∧ t.f = 0xF0 := by
  rfl

theorem test_ccf :
    Gives (State.setFlags (code [0x3F] base) (Flags.ofByte 0xF0)) fun t =>
      t.cycles = 4 ∧ t.f = 0x80 := by
  rfl

theorem test_scf :
    Gives (State.setFlags (State.setReg (code [0x37] base) .a 0x35) (Flags.ofByte 0xE0)) fun t =>
      t.cycles = 4 ∧ t.cpu.a = 0x35 ∧ t.f = 0x90 := by
  rfl

theorem test_add_hl_hl :
    Gives (State.setFlags (State.setRr (code [0x29] base) .hl 0x8A23) (Flags.ofByte 0x00)) fun t =>
      t.cycles = 8 ∧ t.hl = 0x1446 ∧ t.f = 0x30 := by
  rfl

theorem test_inc_sp :
    Gives (State.setRr (code [0x33] base) .sp 0xFFFF) fun t =>
      t.cycles = 8 ∧ t.cpu.sp = 0x0000 := by
  rfl

theorem test_dec_de :
    Gives (State.setRr (code [0x1B] base) .de 0x0100) fun t =>
      t.cycles = 8 ∧ t.de = 0x00FF := by
  rfl

theorem test_add_sp_e8 :
    Gives (State.setRr (code [0xE8, 0x80] base) .sp 0xFF80) fun t =>
      t.cycles = 16 ∧ t.cpu.sp = 0xFF00 ∧ t.f = 0x10 := by
  rfl

theorem test_rlca_leaves_z_clear :
    Gives (State.setFlags (State.setReg (code [0x07] base) .a 0x00) (Flags.ofByte 0x80)) fun t =>
      t.cycles = 4 ∧ t.cpu.a = 0x00 ∧ t.f = 0x00 := by
  rfl

theorem test_rra :
    Gives (State.setFlags (State.setReg (code [0x1F] base) .a 0x81) (Flags.ofByte 0x00)) fun t =>
      t.cycles = 4 ∧ t.cpu.a = 0x40 ∧ t.f = 0x10 := by
  rfl

theorem test_rl_d :
    Gives (State.setFlags (State.setReg (code [0xCB, 0x12] base) .d 0x00) (Flags.ofByte 0x10)) fun t =>
      t.cycles = 8 ∧ t.cpu.d = 0x01 ∧ t.f = 0x00 := by
  rfl

theorem test_rr_e :
    Gives (State.setFlags (State.setReg (code [0xCB, 0x1B] base) .e 0x00) (Flags.ofByte 0x10)) fun t =>
      t.cycles = 8 ∧ t.cpu.e = 0x80 ∧ t.f = 0x00 := by
  rfl

theorem test_sra_a :
    Gives (State.setFlags (State.setReg (code [0xCB, 0x2F] base) .a 0x8A) (Flags.ofByte 0x00)) fun t =>
      t.cycles = 8 ∧ t.cpu.a = 0xC5 ∧ t.f = 0x00 := by
  rfl

theorem test_swap_memhl :
    Gives (State.setFlags (State.setRr (put (code [0xCB, 0x36] base) 0xC000 0xA5) .hl 0xC000) (Flags.ofByte 0x00)) fun t =>
      t.cycles = 16 ∧ reads t 0xC000 0x5A ∧ t.f = 0x00 := by
  rfl

theorem test_srl_a :
    Gives (State.setFlags (State.setReg (code [0xCB, 0x3F] base) .a 0x01) (Flags.ofByte 0x00)) fun t =>
      t.cycles = 8 ∧ t.cpu.a = 0x00 ∧ t.f = 0x90 := by
  rfl

theorem test_bit0_memhl :
    Gives (State.setFlags (State.setRr (put (code [0xCB, 0x46] base) 0xC000 0xFE) .hl 0xC000) (Flags.ofByte 0x00)) fun t =>
      t.cycles = 12 ∧ t.f = 0xA0 := by
  rfl

theorem test_res7_memhl :
    Gives (State.setFlags (State.setRr (put (code [0xCB, 0xBE] base) 0xC000 0xFF) .hl 0xC000) (Flags.ofByte 0x00)) fun t =>
      t.cycles = 16 ∧ reads t 0xC000 0x7F ∧ t.f = 0x00 := by
  rfl

theorem test_set7_memhl :
    Gives (State.setFlags (State.setRr (put (code [0xCB, 0xFE] base) 0xC000 0x00) .hl 0xC000) (Flags.ofByte 0xF0)) fun t =>
      t.cycles = 16 ∧ reads t 0xC000 0x80 ∧ t.f = 0xF0 := by
  rfl

theorem test_jp_nz_not_taken :
    Gives (State.setFlags (code [0xC2, 0x00, 0x80] base) (Flags.ofByte 0x80)) fun t =>
      t.cycles = 12 ∧ t.cpu.pc = 0x0103 := by
  rfl

theorem test_jr_backwards :
    Gives (code [0x18, 0x80] base) fun t =>
      t.cycles = 12 ∧ t.cpu.pc = 0x0082 := by
  rfl

theorem test_jp_hl :
    Gives (State.setRr (code [0xE9] base) .hl 0xC123) fun t =>
      t.cycles = 4 ∧ t.cpu.pc = 0xC123 ∧ t.hl = 0xC123 := by
  rfl

theorem test_jr_c_taken :
    Gives (State.setFlags (code [0x38, 0x10] base) (Flags.ofByte 0x10)) fun t =>
      t.cycles = 12 ∧ t.cpu.pc = 0x0112 := by
  rfl

theorem test_call_z_taken :
    Gives (State.setFlags (State.setRr (code [0xCC, 0x34, 0x12] base) .sp 0xFFFE) (Flags.ofByte 0x80)) fun t =>
      t.cycles = 24 ∧ reads t 0xFFFD 0x01 ∧ reads t 0xFFFC 0x03 ∧ t.cpu.pc = 0x1234 ∧ t.cpu.sp = 0xFFFC := by
  rfl

theorem test_call_c_not_taken :
    Gives (State.setFlags (State.setRr (code [0xDC, 0x34, 0x12] base) .sp 0xD000) (Flags.ofByte 0x00)) fun t =>
      t.cycles = 12 ∧ t.cpu.pc = 0x0103 ∧ t.cpu.sp = 0xD000 := by
  rfl

theorem test_ret_nz_taken :
    Gives (State.setFlags (State.setRr (put (put (code [0xC0] base) 0xFFFC 0x03) 0xFFFD 0x01) .sp 0xFFFC) (Flags.ofByte 0x00)) fun t =>
      t.cycles = 20 ∧ t.cpu.pc = 0x0103 ∧ t.cpu.sp = 0xFFFE := by
  rfl

theorem test_reti :
    Gives (State.setIme (State.setRr (put (put (code [0xD9] base) 0xFFFC 0x51) 0xFFFD 0x01) .sp 0xFFFC) false) fun t =>
      t.cycles = 16 ∧ t.cpu.pc = 0x0151 ∧ t.cpu.sp = 0xFFFE ∧ t.cpu.ime = true := by
  rfl

theorem test_rst38_wraps :
    Gives (State.setRr (code [0xFF] base) .sp 0x0001) fun t =>
      t.cycles = 16 ∧ reads t 0xFFFF 0x01 ∧ t.cpu.pc = 0x0038 ∧ t.cpu.sp = 0xFFFF := by
  rfl

theorem test_halt :
    Gives (setIf (setIe (code [0x76] base) 0x00) 0x00) fun t =>
      t.cycles = 4 ∧ t.cpu.pc = 0x0101 ∧ t.cpu.halted = true := by
  rfl

theorem test_halt_undone_by_service :
    Gives (State.setRr (State.setIme (setIf (setIe (code [0x76] base) 0x01) 0x01) true) .sp 0xFFFE) fun t =>
      t.cycles = 24 ∧ reads t 0xFFFD 0x01 ∧ reads t 0xFFFC 0x01 ∧ t.cpu.pc = 0x0040 ∧ t.cpu.halted = false ∧ t.ifReg = 0x00 ∧ t.cpu.sp = 0xFFFC ∧ t.cpu.ime = false := by
  rfl

theorem test_halted_stays :
    Gives (State.setReg (setIf (setIe (State.setHalted (code [0x04] base) true) 0x04) 0x00) .b 0x01) fun t =>
      t.cycles = 1 ∧ t.cpu.pc = 0x0100 ∧ t.cpu.halted = true ∧ t.cpu.b = 0x01 := by
  rfl

theorem test_halted_wakes_and_is_serviced :
    Gives (State.setRr (State.setReg (State.setIme (setIf (setIe (State.setHalted (code [0x04] base) true) 0x04) 0x04) true) .b 0x01) .sp 0xFFFE) fun t =>
      t.cycles = 24 ∧ reads t 0xFFFD 0x01 ∧ reads t 0xFFFC 0x01 ∧ t.cpu.pc = 0x0050 ∧ t.cpu.halted = false ∧ t.cpu.b = 0x02 ∧ t.ifReg = 0x00 ∧ t.cpu.sp = 0xFFFC := by
  rfl

theorem test_di :
    Gives (setIf (setIe (State.setIme (code [0xF3] base) true) 0x01) 0x01) fun t =>
      t.cycles = 4 ∧ t.cpu.ime = false ∧ t.cpu.pc = 0x0101 ∧ t.ifReg = 0x01 := by
  rfl

theorem test_ei_is_serviced_at_once :
    Gives (State.setRr (setIf (setIe (State.setIme (code [0xFB] base) false) 0x1F) 0x14) .sp 0xFFFE) fun t =>
      t.cycles = 24 ∧ reads t 0xFFFD 0x01 ∧ reads t 0xFFFC 0x01 ∧ t.cpu.ime = false ∧ t.cpu.pc = 0x0050 ∧ t.ifReg = 0x10 ∧ t.cpu.sp = 0xFFFC := by
  rfl

theorem test_unrecognized :
    Gives (State.setFlags (code [0xD3] base) (Flags.ofByte 0xF0)) fun t =>
      t.cycles = 4 ∧ t.cpu.pc = 0x0101 ∧ t.f = 0xF0 := by
  rfl

theorem test_service_takes_the_first :
    Gives (State.setRr (setIf (setIe (State.setIme (code [0x00] base) true) 0x1F) 0x1F) .sp 0xFFFE) fun t =>
      t.cycles = 24 ∧ reads t 0xFFFD 0x01 ∧ reads t 0xFFFC 0x01 ∧ t.cpu.pc = 0x0040 ∧ t.ifReg = 0x1E ∧ t.cpu.ime = false ∧ t.cpu.sp = 0xFFFC := by
  rfl

theorem test_service_serial :
    Gives (State.setRr (setIf (setIe (State.setIme (code [0x00] base) true) 0x18) 0x18) .sp 0xC002) fun t =>
      t.cycles = 24 ∧ reads t 0xC001 0x01 ∧ reads t 0xC000 0x01 ∧ t.cpu.pc = 0x0058 ∧ t.ifReg = 0x10 ∧ t.cpu.ime = false := by
  rfl

/-- The worked property T5: the call of `call(0x1234)` from 0x00FD. -/
theorem test_call_from_00fd :
    Ends (exec (.callA16 0x1234) ((base.setPc 0x0100).setSp 0xFFFE)) fun t =>
      reads t 0xFFFD 0x01 ∧ reads t 0xFFFC 0x00 ∧ t.cpu.sp = 0xFFFC ∧ t.cpu.pc = 0x1234 := by rfl

/-- Rule R245: RETI and, in the same step, the second service. -/
theorem test_reti_serviced_at_once :
    Gives (setIf (setIe ((put (put (code [0xD9] base) 0xFFFC 0x51) 0xFFFD 0x01).setSp 0xFFFC) 0x03) 0x02) fun t =>
      t.cycles = 36 ∧ t.cpu.pc = 0x0048 ∧ t.cpu.sp = 0xFFFC ∧ t.ifReg = 0x00 ∧ t.cpu.ime = false := by rfl

theorem test_stop : cpuStep (code [0x10, 0x00] base) = .fault .stop := by rfl

/-- 95_test_vectors.md, IF row: IME set, IE 0xE0, and IF written 0xFF. -/
theorem test_pending_without_source :
    cpuStep (((setIe (code [0xE0, 0x0F] base) 0xE0).setReg .a 0xE0).setIme true) = .fault .pendingWithoutSource := by rfl

theorem test_fetch_from_gap : step (base.setPc 0xFEA0) = .fault (.gap 0xFEA0) := by rfl

/-! ## The bus with the results of 95_test_vectors.md -/

/-- A bus write, then property `p` of the state. -/
def AfterWrite (s : State) (a : Word) (v : Byte) (p : State → Bool) : Bool :=
  match busWrite s a v with
  | .ok t => p t
  | .error _ => false

/-- [0xFE00] = 0x42 and [0x8000] = 0x24 in a mode. -/
def contended (m : Mode) : State := setMode (put (put base 0xFE00 0x42) 0x8000 0x24) m

theorem test_contention_oam_search :
    reads (contended .oamSearch) 0xFE00 0xFF ∧ reads (contended .oamSearch) 0x8000 0x24 := by decide

theorem test_contention_line_render :
    AfterWrite (contended .lineRender) 0xFE00 0x99 (fun t => reads (setMode t .hblank) 0xFE00 0x42) ∧
      AfterWrite (contended .lineRender) 0x8000 0x99 (fun t => reads (setMode t .hblank) 0x8000 0x24) := by decide

theorem test_contention_vblank : AfterWrite (contended .vblank) 0xFE00 0x99 (fun t => reads t 0xFE00 0x99) := by decide

theorem test_dma_copies :
    AfterWrite (putAll base 0xC100 [1, 2, 3]) 0xFF46 0xC1 fun t =>
      reads t 0xFE00 1 ∧ reads t 0xFE02 3 ∧ reads t 0xFE03 0 ∧ reads t 0xFF46 0xC1 := by
  decide +kernel

/-- The source reads are blocked, the destination writes are not. -/
theorem test_dma_of_blocked_vram :
    AfterWrite (setMode base .lineRender) 0xFF46 0x80 fun t => reads (setMode t .hblank) 0xFE9F 0xFF := by
  decide +kernel

theorem test_boot_rom_unmapped :
    let s := { put { base with bootMapped := true } 0x0010 0xAA with romBank := 1 }
    reads s 0x0010 0xAA ∧ AfterWrite s 0xFF50 0x00 fun t => reads t 0x0010 0x00 ∧ t.bootMapped = false := by decide

/-- A banked cartridge of 0x10000 bytes whose bank `k` starts with 0xB0 + `k`. -/
def banked : State :=
  { base with
    cfg := { base.cfg with
      cartType := .banked, cartLen := 0x10000,
      cartRom := [(0x0000, 0xB0), (0x0147, 0x01), (0x4000, 0xB1), (0x8000, 0xB2), (0xC000, 0xB3)] } }

theorem test_banked_well_formed : banked.cfg.wellFormed = true := by decide
theorem test_bank_reset : reads banked 0x4000 0xB1 := by decide
theorem test_bank_3 : AfterWrite banked 0x2000 0x03 fun t => reads t 0x4000 0xB3 := by decide
theorem test_bank_0_is_1 : AfterWrite banked 0x3FFF 0x20 fun t => reads t 0x4000 0xB1 ∧ t.romBank = 1 := by decide
theorem test_bank_5_wraps : AfterWrite banked 0x2000 0x05 fun t => reads t 0x4000 0xB1 ∧ t.romBank = 5 := by decide

theorem test_stat : AfterWrite (setMode base .oamSearch) 0xFF41 0xFF fun t => reads t 0xFF41 0x7A := by decide
theorem test_joypad : AfterWrite base 0xFF00 0x20 fun t => reads t 0xFF00 0xEF := by decide

/-- Button A pressed, action buttons selected (rule R270): bit 0 reads 0. -/
theorem test_joypad_a :
    AfterWrite { base with buttons := { Config.noButtons with a := true } } 0xFF00 0x10 fun t => reads t 0xFF00 0xDE := by
  decide

/-! ## The PPU with the results of 95_test_vectors.md -/

/-- Output enabled, at the start of a frame (T6). -/
def frame0 : State := { base with ppu := { Ppu.reset with lcdc := 0x80 } }

/-- Mode, line, count. -/
def place (s : State) : Mode × Nat × Nat := (s.ppu.mode, s.ppu.line, s.ppu.cnt)

theorem test_tick_80 : place (ppuTick 80 frame0) = (.lineRender, 0, 0) ∧ reads (ppuTick 80 frame0) 0xFF41 0x07 := by
  decide +kernel
theorem test_tick_1000 : place (ppuTick 1000 frame0) = (.lineRender, 2, 8) := by rfl

/-- The line compare with LYC = 5 (rule R256): the request is raised in cycle 2,076. -/
theorem test_compare_5 :
    let s := { frame0 with ppu := { frame0.ppu with lyc := 5, statSel := 0x8 } }
    (ppuTick 2075 s).ifReg = 0x00 ∧ (ppuTick 2076 s).ifReg = 0x02 ∧ (ppuTick 2076 s).ppu.lycEq = true := by
  decide +kernel

theorem test_enter_vblank :
    let s := ppuTick 204 { frame0 with ppu := { frame0.ppu with mode := .hblank, line := 144 } }
    place s = (.vblank, 144, 0) ∧ s.ifReg = 0x01 := by decide

theorem test_output_disabled :
    place (ppuTick 4 { base with ppu := { Ppu.reset with mode := .lineRender, line := 77, cnt := 100 } }) = (.hblank, 0, 0) := by
  decide

/-- Twelve slots at y = 16 and one at y = 1. -/
def manySprites : State :=
  putAll base 0xFE00 ((List.range 12).flatMap (fun i => [16, BitVec.ofNat 8 (8 + i), BitVec.ofNat 8 i, 0]) ++ [1, 50, 0, 0])

theorem test_scan_first_ten : (scanSprites manySprites 7).map Sprite.tile = [0, 1, 2, 3, 4, 5, 6, 7, 8, 9] := by
  decide +kernel
theorem test_scan_below : scanSprites manySprites 8 = [] := by
  decide +kernel

theorem test_scan_tall_above :
    let s := putAll { base with ppu := { base.ppu with lcdc := 0x04 } } 0xFE00 [1, 50, 9, 0]
    (scanSprites s 0).map Sprite.tile = [9] ∧ scanSprites s 1 = [] := by
  decide +kernel

theorem test_tile_addr_signed : [0x00, 0x01, 0x7F, 0x80, 0xFF].map (tileAddr 0x00) = [0x9000, 0x9010, 0x97F0, 0x8800, 0x8FF0] := by
  decide

theorem test_tile_addr_unsigned : [0x01, 0x80, 0xFF].map (tileAddr 0x10) = [0x8010, 0x8800, 0x8FF0] := by decide

/-- The tiles, the map and the registers of rule R263. -/
def picture (lcdc scx wx : Byte) : State :=
  let tile (s : State) (a : Word) (l h : Byte) : State := putAll s a ((List.replicate 8 [l, h]).flatten)
  let s := { base with ppu := { base.ppu with lcdc := lcdc, scx := scx, wx := wx } }
  putAll (tile (tile (tile s 0x8010 0x3C 0x7E) 0x8020 0xFF 0x00) 0x8030 0xF0 0x0F) 0x9800 [1, 2]

/-- The first `n` colours of line 0. -/
def colours (s : State) (n : Nat) : List Nat := ((renderRow s 0).take n).map fun x => x.colour.toNat

theorem test_background : colours (picture 0x91 0 0) 20 = [0, 2, 3, 3, 3, 3, 2, 0, 1, 1, 1, 1, 1, 1, 1, 1, 0, 0, 0, 0] := by
  decide +kernel

theorem test_scroll_x : colours (picture 0x91 3 0) 15 = [3, 3, 3, 2, 0, 1, 1, 1, 1, 1, 1, 1, 1, 0, 0] := by
  decide +kernel

theorem test_window :
    colours (picture 0xB1 0 15) 24 = [0, 2, 3, 3, 3, 3, 2, 0, 0, 2, 3, 3, 3, 3, 2, 0, 1, 1, 1, 1, 1, 1, 1, 1] := by
  decide +kernel

theorem test_window_left : colours (picture 0xB1 0 3) 12 = [3, 3, 2, 0, 1, 1, 1, 1, 1, 1, 1, 1] := by
  decide +kernel

theorem test_sprites :
    let s := putAll (picture 0x93 0 0) 0xFE00 [16, 12, 3, 0x00, 16, 14, 3, 0x20, 24, 0, 3, 0x00, 9, 20, 3, 0x00]
    colours { s with ppu := { s.ppu with cache := scanSprites s 0 } } 24 =
      [0, 2, 3, 3, 1, 1, 2, 2, 2, 2, 1, 1, 1, 1, 1, 1, 2, 2, 2, 2, 0, 0, 0, 0] := by
  decide +kernel

/-- Row 5 + 251 wraps to row 0 of the plane (rule R258). -/
theorem test_scroll_y_wraps :
    let s := putAll { base with ppu := { base.ppu with lcdc := 0x91, scy := 251 } } 0x8040 [0x01, 0, 0x02, 0, 0x04, 0, 0x08, 0]
    (List.range 8).map (fun px => (bgPixel (put (put s 0x9800 4) 0x9820 4) px 5).toNat) = [0, 0, 0, 0, 0, 0, 0, 1] := by
  decide +kernel

/-! ## The machine reads its parameters (rule R4): a value other than the default shows -/

theorem test_parameter_fill :
    reads (setMode { base with cfg := { base.cfg with fill := 0x5A } } .lineRender) 0x8000 0x5A := by rfl

theorem test_parameter_vec :
    let s := setIf (setIe (((code [0x00] base).setSp 0xFFFE).setIme true) 0x04) 0x04
    Gives { s with cfg := { s.cfg with vec := { s.cfg.vec with v2 := 0x1234 } } } fun t => t.cpu.pc = 0x1234 := by rfl

theorem test_parameter_prefix :
    let s := (code [0xDD, 0x37] base).setReg .a 0xF1
    Gives { s with cfg := { s.cfg with prefixByte := 0xDD } } fun t =>
      t.cpu.a = 0x1F ∧ t.cycles = 8 ∧ t.cpu.pc = 0x0102 := by rfl

/-- The base count and the extra of a taken JR, the count of a prefixed instruction and of an unrecognized byte. -/
theorem test_parameter_counts :
    let costs (s : State) : State := { s with
      cfg := { s.cfg with
        cyc := List.replicate 16 (List.replicate 16 5), cycCb := List.replicate 16 (List.replicate 16 7), cycTakenExtra := [(0x18, 90), (0x20, 2)]
        cycUnrecognized := 9 } }
    Gives (costs (code [0x20, 0] base)) (fun t => t.cycles = 7) ∧ Gives (costs (code [0x28, 0] base)) (fun t => t.cycles = 5) ∧
      Gives (costs (code [0x18, 0] base)) (fun t => t.cycles = 5) ∧ Gives (costs (code [0xCB, 0] base)) (fun t => t.cycles = 7) ∧
      Gives (costs (code [0xFD, 0] base)) (fun t => t.cycles = 9) :=
  ⟨by rfl, by rfl, by rfl, by rfl, by rfl⟩

/-! ## The host's interface -/

theorem test_table_word : decodeTableWord 24 0xC234EA = some (.ldMemA16A 0xC234) := by rfl
theorem test_table_word_prefixed : decodeTableWord 16 0x36CB = some .swapMemHl := by rfl

/-- From reset, the placed instruction runs first. -/
theorem test_with_fetch_word : Ends (step (State.reset.withFetchWord 16 0xAB06)) (fun t => t.cpu.b = 0xAB ∧ t.cpu.pc = 2) := by rfl

/-! ## Witnesses: a state and operands that meet the hypotheses of each statement together -/

/-- Registers that point into work RAM. -/
def wit : State :=
  { base with
    ram := [(0xC100, 0x11), (0xC101, 0x22), (0xC102, 0x33)]
    cpu := { a := 0x12, b := 0xC0, c := 0x10, d := 0xC1, e := 0x02, h := 0xC1, l := 0x01,
             flags := ⟨false, true, false, true⟩, sp := 0xC100, pc := 0x0150, ime := true, halted := false } }

theorem witness_DecodeIsTotal : 3 ≤ ([0x06, 0xAB, 0x00] : List Byte).length ∧ (0x06 : Byte) ≠ 0xCB := by decide

theorem witness_UnrecognizedBytes : Instr.unrecognizedD3.isUnrecognized = true ∧ Instr.unrecognizedFD.isUnrecognized = true := by
  decide

theorem witness_StepRunsDecodedInstruction :
    let s := code [0xEA, 0x34, 0xC2] base
    let bs : List Byte := [0xEA, 0x34, 0xC2]
    decodeWith s.cfg.prefixByte bs = .ok (.ldMemA16A 0xC234, []) ∧ ¬(s.cpu.halted = true ∧ s.ieReg &&& s.ifReg = 0) ∧
      ∀ (k : Nat) (h : k < bs.length), busRead s (s.cpu.pc + BitVec.ofNat 16 k) = .ok bs[k] :=
  ⟨by rfl, by decide, fun
    | 0, _ => by rfl
    | 1, _ => by rfl
    | 2, _ => by rfl⟩

theorem witness_HaltAndWake :
    (let s := setIe (base.setHalted true) 0x04; s.cpu.halted = true ∧ s.ieReg &&& s.ifReg = 0) ∧
      let s := setIf (setIe (base.setHalted true) 0x80) 0x80; s.cpu.halted = true ∧ s.ieReg &&& s.ifReg ≠ 0 := by
  decide

/-- One state for each clause, and the stack at 0x0001, at 0xC002 and over IE. -/
theorem witness_InterruptService :
    (wit.setIme false).cpu.ime = false ∧ wit.ieReg &&& wit.ifReg = 0 ∧
      ([0x0001, 0xC002, 0x0000] : List Word).all fun sp =>
        let s := setIf (setIe (wit.setSp sp) 0x1F) 0x10
        s.cpu.ime = true ∧ s.ieReg &&& s.ifReg ≠ 0 ∧
          storeOk (s.cpu.sp - 1) (hiByte s.cpu.pc) = true ∧ storeOk (s.cpu.sp - 2) (loByte s.cpu.pc) = true := by
  decide

/-- Requests of the first, of the last source alone, and of none of the five. -/
theorem witness_SourcePriority :
    ((0x1F &&& 0x1F : Byte).getLsbD Source.vblank.bit = true) ∧
      ((0x10 &&& 0xFF : Byte).getLsbD Source.joypad.bit = true ∧
        ∀ q ∈ [Source.vblank, .stat, .timer, .serial], (0x10 &&& 0xFF : Byte).getLsbD q.bit = false) ∧
      (0xE0 &&& 0xFF &&& 0x1F : Byte) = 0 := by
  decide

theorem witness_RequestsFromOutside : base.cfg.timer = .none ∧ base.cfg.joypad = .none := by decide

theorem witness_ServiceThenReti :
    ([0xC002, 0xE000] : List Word).all fun sp =>
      let s := setIf (setIe (wit.setSp sp) 0x1F) 0x11
      s.ram.wf = true ∧ s.cpu.ime = true ∧ s.cpu.halted = false ∧ s.ieReg &&& s.ifReg &&& 0x1F ≠ 0 ∧
        0xC002 ≤ s.cpu.sp.toNat ∧ s.cpu.sp.toNat ≤ 0xE000 := by
  decide

/-- For the statements that assume a next state: an instruction that has one (`ControlBitsFrame`, `FlagsFrame`,
`CycleCounts`, `NonStoringFrame`). -/
theorem witness_exec_next :
    (∃ t, exec .ei wit = .next t) ∧ (∃ t, exec .halt wit = .next t) ∧ (∃ t, exec (.callCA16 0x8000) wit = .next t) ∧
      storeAddrs .ldAMemHlInc wit = [] ∧ ∃ t, exec .ldAMemHlInc wit = .next t :=
  ⟨⟨_, by rfl⟩, ⟨_, by rfl⟩, ⟨_, by rfl⟩, by rfl, ⟨_, by rfl⟩⟩

/-- Each of the three stops is met somewhere. -/
theorem witness_OnlyTheNamedStops :
    exec .ldAMemBc (wit.setBc 0xFF7F) = .fault (.gap 0xFF7F) ∧ exec (.stop 0) wit = .fault .stop ∧
      step (code [0x10, 0] base) = .fault .stop ∧
      step (setIf (setIe ((code [0x00] base).setIme true) 0xE0) 0x20) = .fault .pendingWithoutSource :=
  ⟨by rfl, by rfl, by rfl, by rfl⟩

theorem witness_InstructionsComplete :
    (∀ pad, Instr.incMemHl ≠ .stop pad) ∧
      ([0xFE9F, 0xFF00, 0xFF07, 0xFF50, 0xFFFF] : List Word).all fun hl =>
        ((dataReads .incMemHl (wit.setHl hl)).all fun a => isGap a = false) ∧
          (storeAddrs .incMemHl (wit.setHl hl)).all fun a => isGap a = false ∧ a ≠ 0xFF46 :=
  ⟨(fun _ h => nomatch h), by decide⟩

/-- The first and the last address of each gap, and the addresses beside them. -/
theorem witness_GapAccessFaults :
    (([0xFEA0, 0xFEFF, 0xFF03, 0xFF08, 0xFF0E, 0xFF4C, 0xFF4F, 0xFF51, 0xFF7F] : List Word).all fun a => isGap a) ∧
      (([0xFE9F, 0xFF00, 0xFF02, 0xFF04, 0xFF07, 0xFF0F, 0xFF4B, 0xFF50, 0xFF80] : List Word).all fun a => !isGap a) ∧
      ((wit.setPc 0xFF51).staysHalted = false ∧ isGap (wit.setPc 0xFF51).cpu.pc = true) ∧
      (dataReads .incMemHl (wit.setHl 0xFEA0) ++ storeAddrs .incMemHl (wit.setHl 0xFEA0)).head? = some 0xFEA0 := by
  decide

/-- A machine with the default cycle parameters, one that has not, and a step of the first. -/
theorem witness_CpuStepFrame :
    DefaultCosts base.cfg ∧ ¬DefaultCosts { base.cfg with cycUnrecognized := 8 } ∧ base.staysHalted = false ∧
      ∃ t, cpuStep (code [0x00] base) = .next t :=
  ⟨⟨rfl, rfl, rfl, rfl⟩, (fun h => nomatch h.cycUnrecognized), by rfl, ⟨_, by rfl⟩⟩

/-- The reads that the load, arithmetic, rotate and bit statements assume, in memory and at an edge of the space. -/
theorem witness_reads :
    busRead wit wit.hl = .ok 0x22 ∧ busRead wit wit.bc = .ok 0x00 ∧ busRead wit wit.de = .ok 0x33 ∧
      busRead wit 0xC100 = .ok 0x11 ∧ busRead wit (0xFF00 + (0xFF : Byte).setWidth 16) = .ok 0x00 ∧
      busRead wit (0xFF00 + wit.cpu.c.setWidth 16) = .ok 0x00 ∧ busRead wit wit.cpu.sp = .ok 0x11 ∧
      busRead wit (wit.cpu.sp + 1) = .ok 0x22 :=
  ⟨by rfl, by rfl, by rfl, by rfl, by rfl, by rfl, by rfl, by rfl⟩

/-- The stores that the store, stack, call, rotate and bit statements assume, beside a gap and at the ends of the
space. -/
theorem witness_stores :
    (([wit.hl, wit.bc, wit.de, 0xFF00, 0xFFFF, 0xFE9F, 0x0000, wit.cpu.sp - 1, wit.cpu.sp - 2] : List Word).all
      fun a => storeOk a 0xFF) ∧
      storeOk 0xFF46 0xFE = true ∧ storeOk 0xFF46 0xFF = false ∧ storeOk 0xFEA0 0x00 = false ∧
      storeOk (0xFF00 + (0x80 : Byte).setWidth 16) 0xFF = true ∧ storeOk (0xFF00 + wit.cpu.c.setWidth 16) 0xFF = true := by
  decide

/-- Read and store at HL together (`IncrementDecrement`, `PrefixedRotates`, `ResetAndSetBit`), and a register. -/
theorem witness_modify :
    busRead wit wit.hl = .ok 0x22 ∧ storeOk wit.hl (BitVec.ofNat 8 (0x22 + 1)) = true ∧
      storeOk wit.hl (BitVec.ofNat 8 (0x22 + 0xFF)) = true ∧ storeOk wit.hl (0x22 ||| (1 : Byte) <<< 7) = true ∧
      storeOk wit.hl (0x22 &&& ~~~((1 : Byte) <<< 0)) = true ∧ wit.reg .b = 0xC0 :=
  ⟨by rfl, by rfl, by rfl, by rfl, by rfl, by rfl⟩

theorem witness_PushPopRoundTrip :
    ([0xC002, 0xE000] : List Word).all fun sp => (wit.setSp sp).ram.wf = true ∧ 0xC002 ≤ (wit.setSp sp).cpu.sp.toNat ∧
      (wit.setSp sp).cpu.sp.toNat ≤ 0xE000 := by
  decide

/-- The three operand forms (`AddWithCarry`, `SubtractAndCompare`, `BitwiseLogic`). -/
theorem witness_forms (op : AluOp) :
    AluForm op wit (.aluR8 op (.reg .a)) 0x12 4 ∧ AluForm op wit (.aluR8 op .memHl) 0x22 8 ∧ AluForm op wit (.aluD8 op 0xFF) 0xFF 8 :=
  ⟨.register .a, .memory (v := 0x22) (by rfl), .immediate 0xFF⟩

theorem witness_DecimalAdjustIsDecimal :
    ((0 : Nat) < 100 ∧ (99 : Nat) < 100) ∧ (wit.setReg .a 0x99).cpu.a = BitVec.ofNat 8 (16 * (99 / 10) + 99 % 10) := by decide

/-- Each condition holds in one state and fails in another (`Jumps`, `Calls`, `Returns`). -/
theorem witness_conditions :
    ∀ cc ∈ [Cond.nz, .z, .nc, .c],
      condHolds cc ⟨true, false, false, true⟩ ≠ condHolds cc ⟨false, true, true, false⟩ := by
  decide

theorem witness_CallReturnRoundTrip :
    condHolds .c wit.cpu.flags = true ∧ ∃ cc a, Instr.callCA16 0x1234 = .callCc cc a ∧ condHolds cc wit.cpu.flags = true :=
  ⟨by rfl, .c, 0x1234, by rfl, by rfl⟩

theorem witness_AddressDecode : (addressMap true).reverse.Perm (addressMap true) := List.reverse_perm _

/-- The ends of the two contended ranges, in a mode that blocks and in one that does not. -/
theorem witness_Contention :
    (([0x8000, 0x9FFF] : List Word).all fun a => 0x8000 ≤ a.toNat ∧ a.toNat < 0xA000) ∧
      (([0xFE00, 0xFE9F] : List Word).all fun a => 0xFE00 ≤ a.toNat ∧ a.toNat < 0xFEA0) ∧
      (setMode base .lineRender).ppu.mode = .lineRender ∧ (setMode base .oamSearch).ppu.mode = .oamSearch ∧
      base.cfg.contention = .fallthrough ∧ (setMode base .vblank).ppu.mode ≠ .lineRender ∧
      (setMode base .vblank).ppu.mode ≠ .oamSearch := by
  decide

/-- One address of each kind of unit, and the write to it succeeds (`WriteThenRead`, `WriteFrame`). -/
theorem witness_writes :
    wit.ram.wf = true ∧ wit.vramBlocked = false ∧ wit.oamBlocked = false ∧ wit.cfg.timer = .none ∧
      (([0x0000, 0x7FFF, 0x8000, 0xBFFF, 0xC000, 0xFDFF, 0xFE9F, 0xFF00, 0xFF02, 0xFF04, 0xFF0F, 0xFF3F, 0xFF40] ++
        [0xFF41, 0xFF42, 0xFF43, 0xFF44, 0xFF45, 0xFF47, 0xFF48, 0xFF49, 0xFF4A, 0xFF4B, 0xFF50, 0xFF80, 0xFFFF] :
        List Word).all fun a => AfterWrite wit a 0x5A fun _ => true) = true := by
  decide

/-- Both cartridges, at the ends of their range and of the bank register's, and 0x0000 once the boot ROM is unmapped. -/
theorem witness_CartridgeRom :
    (([0x0000, 0x0100, 0x1FFF, 0x2000, 0x3FFF, 0x4000, 0x7FFF] : List Word).all fun a =>
      a.toNat < 0x8000 ∧ (base.bootMapped = false ∨ 0x0100 ≤ a.toNat)) ∧
      base.cfg.cartType = .flat ∧ banked.cfg.cartType = .banked := by
  decide

theorem witness_BootRomLeavesOnce :
    (0x00FF : Word).toNat < 0x0100 ∧ State.reset.bootMapped = true ∧
      (∃ t, step (code [0x00] base) = .next t) ∧ base.bootMapped = false ∧ Reaches base base :=
  ⟨by decide, by rfl, ⟨_, by rfl⟩, by rfl, .refl⟩

theorem witness_DmaCopies : wit.ram.wf = true ∧ (0xFE : Byte) ≠ 0xFF ∧ (0x00 : Byte) ≠ 0xFF := by decide

theorem witness_DisplayTiming :
    base.ppu.lcdc.getLsbD 7 = false ∧
      ∀ n ∈ [0, 143], let s := { frame0 with ppu := { frame0.ppu with line := n } }
        s.ppu.lcdc.getLsbD 7 = true ∧ s.ppu.mode = .oamSearch ∧ s.ppu.cnt = 0 ∧ s.ppu.line = n ∧ n < 144 := by
  decide

/-- Tile 3 of rule R263, every column inked, and two sprites: the first in the cache plain, the second flipped and with
attribute bit 4, one on the right edge (x = 160 covers columns 152 to 159) or the left (x = 1 covers column 0). -/
def spriteRow (x0 x1 : Byte) : State :=
  { base with
    ram := [(0x8030, 0xF0), (0x8031, 0x0F)]
    ppu := { base.ppu with lcdc := 0x93, cache := [⟨16, x0, 3, 0x00⟩, ⟨16, x1, 3, 0x30⟩] } }

/-- What the statement's `ink` of a sprite is, at its first and last column and just past them. -/
theorem witness_RendersOneRow_ink :
    let s := spriteRow 1 160
    [0, 1].map (fun px => (spriteInk s 0 ⟨16, 1, 3, 0x00⟩ px).toNat) = [2, 0] ∧
      [151, 152, 159].map (fun px => (spriteInk s 0 ⟨16, 160, 3, 0x30⟩ px).toNat) = [0, 2, 1] := by
  decide +kernel

/-- The hypotheses of the two clauses about a column: sprites off; sprites on and none there; the later of two sprites on a
column, and the earlier where the later puts nothing. -/
theorem witness_RendersOneRow :
    base.pb.wf = true ∧ base.ppu.lcdc.getLsbD 1 = false ∧ (0 : Nat) < 160 ∧ (159 : Nat) < 160 ∧
      (spriteRow 12 14).ppu.lcdc.getLsbD 1 = true ∧
      ((spriteRow 12 14).ppu.cache.all fun o => spriteInk (spriteRow 12 14) 0 o 3 = 0 ∧ spriteInk (spriteRow 12 14) 0 o 14 = 0) ∧
      (spriteRow 12 14).ppu.cache = [⟨16, 12, 3, 0x00⟩] ++ ⟨16, 14, 3, 0x30⟩ :: [] ∧
      spriteInk (spriteRow 12 14) 0 ⟨16, 14, 3, 0x30⟩ 6 ≠ 0 ∧
      (spriteRow 12 14).ppu.cache = [] ++ ⟨16, 12, 3, 0x00⟩ :: [⟨16, 14, 3, 0x30⟩] ∧
      spriteInk (spriteRow 12 14) 0 ⟨16, 12, 3, 0x00⟩ 5 ≠ 0 ∧ spriteInk (spriteRow 12 14) 0 ⟨16, 14, 3, 0x30⟩ 5 = 0 := by
  decide +kernel

/-- The window's first pixel, and its last uncovered one. -/
theorem witness_RendersOneRow_window :
    let s := picture 0xB1 0 15
    s.ppu.lcdc.getLsbD 5 = true ∧ s.ppu.wy.toNat ≤ 0 ∧ s.ppu.wx.toNat ≤ 8 + 7 ∧ ¬ s.ppu.wx.toNat ≤ 7 + 7 := by
  refine ⟨?_, ?_, ?_, ?_⟩ <;> decide +kernel

/-- A bad ramp or palette order would show here (rule R261): OBP1 = 0x1B reverses the four shades. -/
theorem test_palette_register :
    let s := spriteRow 12 14
    let t := { s with cfg := { s.cfg with palette := .register }, ppu := { s.ppu with bgp := 0x03, obp0 := 0xE4, obp1 := 0x1B } }
    [3, 4, 5, 6, 13, 14].map (fun px => (((renderRow t 0)[px]?).map (pixelRgb t))) =
      [some ⟨0, 0, 0⟩, some ⟨170, 170, 170⟩, some ⟨170, 170, 170⟩, some ⟨170, 170, 170⟩, some ⟨85, 85, 85⟩, some ⟨0, 0, 0⟩] := by
  decide +kernel

theorem witness_FrameOfTicks :
    frame0.ppu.Legal ∧ frame0.ppu.lcdc.getLsbD 7 = true ∧ ¬(frame0.ppu.mode = .hblank ∧ frame0.ppu.line = 0) :=
  ⟨⟨by decide, by show (0 : Nat) < 144; decide, by decide⟩, by decide, by decide⟩

theorem witness_StepKeepsInv : base.Inv ∧ ∃ t, step (code [0x00] base) = .next t :=
  ⟨⟨by decide, by decide, by decide, ⟨by decide, by show (0 : Nat) ≤ 144; decide, by decide⟩, by decide⟩, ⟨_, by rfl⟩⟩

theorem witness_ResetInv : banked.cfg.wellFormed = true ∧ Config.default.wellFormed = true := by decide

end Sys2Proof.Tests
end

section
/-! PROOFS. The decoder: its fields, the bytes an opcode stands for, and that it is total (O2). -/

namespace Sys2Proof

/-- The number a 2-bit field holds. -/
def Quad.toNat : Quad → Nat
  | .q0 => 0 | .q1 => 1 | .q2 => 2 | .q3 => 3

/-- A byte with the given fields `x`, `y` and `z` (rule R91). -/
def ofFields (x : Quad) (y z : Oct) : Byte := BitVec.ofNat 8 (64 * x.toNat + 8 * y.toNat + z.toNat)

/-- A byte is its three fields. -/
theorem ofFields_fields : ∀ b : Byte, ofFields (fieldX b) (fieldY b) (fieldZ b) = b := by decide

/-- The bytes after the opcode of an instruction with operand byte `n8` or operand word `n16` (rules R63, R91). -/
def Len.operandBytes (n8 : Byte) (n16 : Word) : Len → List Byte
  | .one => []
  | .two => [n8]
  | .three => [loByte n16, hiByte n16]

/-- An instruction of the extended table is encoded as the 0xCB byte and the byte it is decoded from (rule R99). -/
theorem encode_decodeCb (sub : Byte) : encode (decodeCb sub) = [0xCB, sub] := by
  suffices h : encode (decodeCb sub) = [0xCB, ofFields (fieldX sub) (fieldY sub) (fieldZ sub)] by
    rwa [ofFields_fields] at h
  unfold decodeCb
  cases fieldX sub <;> cases fieldY sub <;> cases fieldZ sub <;> rfl

/-- An instruction of the base table is encoded as its opcode and the operand bytes its length announces (rules R90, R98);
the cell of the 0xCB byte opens the extended table. -/
theorem encode_decodeOp (op n1 n2 : Byte) :
    encode (decodeOp op n1 n2) = op :: (lengthOf op).operandBytes n1 (mkWord n2 n1) := by
  suffices h : encode (decodeOp op n1 n2) =
      ofFields (fieldX op) (fieldY op) (fieldZ op) :: (lengthOf op).operandBytes n1 (mkWord n2 n1) by
    rwa [ofFields_fields] at h
  unfold decodeOp lengthOf
  generalize mkWord n2 n1 = n16
  cases fieldX op with
  | q3 =>
    cases fieldZ op with
    | o3 =>
      cases fieldY op with
      | o1 => exact encode_decodeCb n1
      | _ => rfl
    | _ => cases fieldY op <;> rfl
  | _ => cases fieldY op <;> cases fieldZ op <;> rfl

/-- The encoding of an instruction of the base table is as many of the three bytes as the opcode announces. -/
theorem encode_decodeOp_take (op n1 n2 : Byte) : encode (decodeOp op n1 n2) = [op, n1, n2].take (lengthOf op).toNat := by
  rw [encode_decodeOp]
  cases lengthOf op <;> simp [Len.operandBytes, Len.toNat]

theorem length_decodeOp (op n1 n2 : Byte) : (decodeOp op n1 n2).length = (lengthOf op).toNat := by
  rw [Instr.length, encode_decodeOp]
  cases lengthOf op <;> rfl

/-- Decoding three bytes or more takes as many as the opcode announces; those it does not take count as 0 (rule R90). -/
theorem decode_three (op n1 n2 : Byte) (rest : List Byte) :
    ∃ m1 m2, decode (op :: n1 :: n2 :: rest) =
        .ok (decodeOp op m1 m2, (op :: n1 :: n2 :: rest).drop (lengthOf op).toNat) ∧
      [op, m1, m2].take (lengthOf op).toNat = (op :: n1 :: n2 :: rest).take (lengthOf op).toNat := by
  simp only [decode, decodeWith, lengthOfWith_default, decodeOpWith_default]
  cases lengthOf op with
  | one => exact ⟨0, 0, rfl, rfl⟩
  | two => exact ⟨n1, 0, rfl, rfl⟩
  | three => exact ⟨n1, n2, rfl, rfl⟩

theorem decodeWith_prefix (pfx sub : Byte) (rest : List Byte) :
    decodeWith pfx (pfx :: sub :: rest) = .ok (decodeCb sub, rest) := by
  simp only [decodeWith, lengthOfWith_prefix, decodeOpWith_prefix]

theorem decodeWith_of_ne {pfx op : Byte} (h : op ≠ pfx) (rest : List Byte) :
    decodeWith pfx (op :: rest) = decode (op :: rest) := by
  simp only [decode, decodeWith, lengthOfWith_of_ne h, decodeOpWith_of_ne h, lengthOfWith_default, decodeOpWith_default]

theorem Len.toNat_bounds (n : Len) : 1 ≤ n.toNat ∧ n.toNat ≤ 3 := by cases n <;> decide

/-- Settles O2: the bytes taken and the encoding are both cut to the length the opcode announces. -/
theorem decodeIsTotal : Obligations.DecodeIsTotal := by
  refine ⟨?_, fun pfx sub rest => ⟨decodeWith_prefix pfx sub rest, encode_decodeCb sub⟩,
    fun _ _ rest h => decodeWith_of_ne h rest, rfl⟩
  intro bs hbs
  match bs, hbs with
  | op :: n1 :: n2 :: rest, _ =>
    obtain ⟨m1, m2, hdec, htake⟩ := decode_three op n1 n2 rest
    have hlen : (decodeOp op m1 m2).length = (lengthOf op).toNat := length_decodeOp op m1 m2
    obtain ⟨hlo, hhi⟩ := Len.toNat_bounds (lengthOf op)
    exact ⟨decodeOp op m1 m2, by rwa [hlen], by rwa [hlen], by rwa [hlen], by rw [hlen, encode_decodeOp_take, htake]⟩

end Sys2Proof
end

section
/-! PROOFS. A step from the bytes at the program counter: what they decode to is what is fetched and run (O5). -/

namespace Sys2Proof

/-- A string of bytes that decodes to exactly one instruction is one, two or three bytes long, as its first byte calls
for. -/
theorem decodeWith_all_inv {pfx : Byte} {bs : List Byte} {i : Instr} (h : decodeWith pfx bs = .ok (i, [])) :
    (∃ op, bs = [op] ∧ lengthOfWith pfx op = .one ∧ i = decodeOpWith pfx op 0 0) ∨
    (∃ op n1, bs = [op, n1] ∧ lengthOfWith pfx op = .two ∧ i = decodeOpWith pfx op n1 0) ∨
    ∃ op n1 n2, bs = [op, n1, n2] ∧ lengthOfWith pfx op = .three ∧ i = decodeOpWith pfx op n1 n2 := by
  unfold decodeWith at h
  split at h
  · cases h
  · rename_i op rest
    split at h
    · rename_i hlen; cases h; exact .inl ⟨op, rfl, hlen, rfl⟩
    · rename_i n1 _ hlen; cases h; exact .inr (.inl ⟨op, n1, rfl, hlen, rfl⟩)
    · rename_i n1 n2 _ hlen; cases h; exact .inr (.inr ⟨op, n1, n2, rfl, hlen, rfl⟩)
    · cases h

end Sys2Proof

namespace Sys2Proof.Machine

/-- The fetch takes the instruction that the bytes read at `pc` decode to, and moves `pc` past them (rule R90). -/
theorem fetchDecode_of_decodeWith {s : State} {bs : List Byte} {i : Instr}
    (hdec : decodeWith s.cfg.prefixByte bs = .ok (i, []))
    (hread : ∀ (k : Nat) (h : k < bs.length), busRead s (s.cpu.pc + BitVec.ofNat 16 k) = .ok bs[k]) :
    fetchDecode s = .ok (i, s.setPc (s.cpu.pc + BitVec.ofNat 16 bs.length)) := by
  have first : ∀ (op : Byte) (rest : List Byte), bs = op :: rest → busRead s s.cpu.pc = .ok op := by
    rintro op rest rfl
    exact (congrArg (busRead s) (BitVec.add_zero _).symm).trans (hread 0 (Nat.succ_pos _))
  rcases decodeWith_all_inv hdec with ⟨op, rfl, hlen, rfl⟩ | ⟨op, n1, rfl, hlen, rfl⟩ | ⟨op, n1, n2, rfl, hlen, rfl⟩
  · simp only [fetchDecode, fetchBytes, first _ _ rfl, hlen, Len.toNat, List.length_cons, List.length_nil]
  · have second : busRead s (s.cpu.pc + 1) = .ok n1 := hread 1 (by simp)
    simp only [fetchDecode, fetchBytes, first _ _ rfl, second, hlen, Len.toNat, List.length_cons, List.length_nil]
  · have second : busRead s (s.cpu.pc + 1) = .ok n1 := hread 1 (by simp)
    have third : busRead s (s.cpu.pc + 2) = .ok n2 := hread 2 (by simp)
    simp only [fetchDecode, fetchBytes, first _ _ rfl, second, third, hlen, Len.toNat, List.length_cons, List.length_nil]

/-- Nothing is pending exactly when IE AND IF is 0 (rule R233). -/
theorem State.hasPending_eq_false_iff (s : State) : s.hasPending = false ↔ s.ieReg &&& s.ifReg = 0 := by
  rw [State.hasPending, decide_eq_false_iff_not, Decidable.not_not, State.pendingByte]

/-- A CPU stays halted exactly when it is halted and nothing is pending (rule R236). -/
theorem State.staysHalted_iff (s : State) : s.staysHalted = true ↔ s.cpu.halted = true ∧ s.ieReg &&& s.ifReg = 0 := by
  rw [State.staysHalted, Bool.and_eq_true, Bool.not_eq_true', State.hasPending_eq_false_iff]

/-- S1 of rule R235. -/
theorem cpuStep_of_staysHalted {s : State} (h : s.staysHalted = true) : cpuStep s = .next (s.setCycles 1) := if_pos h

/-- S2 to S5 of rule R235, when the fetch succeeds. -/
theorem cpuStep_of_fetchDecode {s s1 : State} {i : Instr} (h : s.staysHalted ≠ true)
    (hf : fetchDecode (s.setHalted false) = .ok (i, s1)) : cpuStep s = endOfInstruction (exec i s1) := by
  unfold cpuStep
  rw [if_neg h, hf]

/-- Settles O5: the CPU step is the fetch of the bytes read at `pc`, or the halted step; `step` passes its count on. -/
theorem stepRunsDecodedInstruction : Obligations.StepRunsDecodedInstruction := by
  intro s
  refine ⟨fun bs i hdec hawake hread => ?_, fun hhalt hnone => ?_⟩
  · have hf : fetchDecode (s.setHalted false) =
        .ok (i, (s.setHalted false).setPc (s.cpu.pc + BitVec.ofNat 16 bs.length)) :=
      fetchDecode_of_decodeWith (s := s.setHalted false) hdec hread
    rw [step, cpuStep_of_fetchDecode (mt s.staysHalted_iff.1 hawake) hf]
    rfl
  · rw [step, cpuStep_of_staysHalted (s.staysHalted_iff.2 ⟨hhalt, hnone⟩)]
    rfl

end Sys2Proof.Machine
end

section
/-! PROOFS. The shape of every meaning: one body, finished with the instruction's count, that stops at gaps only and
completes when no address it accesses is a gap. -/

namespace Sys2Proof.Machine

/-! ## Accesses that meet no gap -/

/-- Every address is off the gaps. -/
def ReadsOk (as : List Word) : Prop := ∀ a ∈ as, isGap a = false

/-- Every address is off the gaps, and none starts a DMA copy. -/
def StoresOk (as : List Word) : Prop := ∀ a ∈ as, isGap a = false ∧ a ≠ 0xFF46

theorem readsOk_cons {a : Word} {as : List Word} : ReadsOk (a :: as) ↔ isGap a = false ∧ ReadsOk as := List.forall_mem_cons

theorem storesOk_cons {a : Word} {as : List Word} :
    StoresOk (a :: as) ↔ (isGap a = false ∧ a ≠ 0xFF46) ∧ StoresOk as := List.forall_mem_cons

/-- The address an operand is accessed at, none for a register (rule R92). -/
def State.r8Addrs (s : State) : R8 → List Word
  | .reg _ => []
  | .memHl => [s.hl]

theorem storeOk_of_ne_dma {a : Word} (h : isGap a = false ∧ a ≠ 0xFF46) (v : Byte) : storeOk a v = true := by
  simp only [storeOk, h.1, h.2, ne_eq, not_false_eq_true, decide_true, Bool.true_or, Bool.not_false, Bool.and_self]

/-- A store off the gaps and off the DMA register completes. -/
theorem busWrite_completes {s : State} {a : Word} {v : Byte} (h : isGap a = false ∧ a ≠ 0xFF46) :
    ∃ t, busWrite s a v = .ok t := busWrite_ok_iff.2 (storeOk_of_ne_dma h v)

theorem readR8_completes {s : State} {r : R8} (h : ReadsOk (s.r8Addrs r)) : ∃ v, readR8 s r = .ok v := by
  cases r with
  | reg r => exact ⟨_, rfl⟩
  | memHl => exact busRead_ok_iff.2 (readsOk_cons.1 h).1

theorem writeR8_completes {s : State} {r : R8} {v : Byte} (h : StoresOk (s.r8Addrs r)) : ∃ t, writeR8 s r v = .ok t := by
  cases r with
  | reg r => exact ⟨_, rfl⟩
  | memHl => exact busWrite_completes (storesOk_cons.1 h).1

theorem withOperand_completes {op : Byte → State → State} {s : State} {r : R8} (h : ReadsOk (s.r8Addrs r)) :
    ∃ t, withOperand op r s = .ok t := by
  obtain ⟨v, hv⟩ := readR8_completes h
  exact ⟨op v s, by simp only [withOperand, hv]⟩

theorem modifyOperand_completes {op : Byte → Flags → Byte × Flags} {s : State} {r : R8} (hr : ReadsOk (s.r8Addrs r))
    (hw : StoresOk (s.r8Addrs r)) : ∃ t, modifyOperand op r s = .ok t := by
  obtain ⟨v, hv⟩ := readR8_completes hr
  obtain ⟨t, ht⟩ := writeR8_completes (v := (op v s.cpu.flags).1) hw
  exact ⟨t.setFlags (op v s.cpu.flags).2, by simp only [modifyOperand, hv, ht]⟩

theorem move_completes {s : State} {d q : R8} (hr : ReadsOk (s.r8Addrs q)) (hw : StoresOk (s.r8Addrs d)) :
    ∃ t, move d q s = .ok t := by
  obtain ⟨v, hv⟩ := readR8_completes hr
  simpa only [move, hv] using writeR8_completes hw

theorem loadA_completes {s : State} {a : Word} (h : ReadsOk [a]) : ∃ t, loadA a s = .ok t := by
  obtain ⟨v, hv⟩ := busRead_ok_iff (s := s).2 (readsOk_cons.1 h).1
  exact ⟨s.setReg .a v, by simp only [loadA, hv]⟩

theorem onlyGap_storeA (a : Word) (s : State) : OnlyGap (storeA a s) := onlyGap_busWrite s a _

theorem storeA_completes {s : State} {a : Word} (h : StoresOk [a]) : ∃ t, storeA a s = .ok t :=
  busWrite_completes (storesOk_cons.1 h).1

theorem thenSet_completes {r : Except Fault State} (h : ∃ t, r = .ok t) (f : State → State) :
    ∃ t, thenSet r f = .ok t := by
  obtain ⟨t, rfl⟩ := h
  exact ⟨f t, rfl⟩

theorem busWrite16_completes {s : State} {a w : Word} (h : StoresOk [a, a + 1]) : ∃ t, busWrite16 s a w = .ok t := by
  obtain ⟨h1, h2⟩ := storesOk_cons.1 h
  obtain ⟨u, hu⟩ := busWrite_completes (s := s) (v := loByte w) h1
  simpa only [busWrite16, hu] using busWrite_completes (storesOk_cons.1 h2).1

theorem push16_completes {s : State} (w : Word) (h : StoresOk [s.cpu.sp - 1, s.cpu.sp - 2]) : ∃ t, push16 w s = .ok t := by
  obtain ⟨h1, h2⟩ := storesOk_cons.1 h
  exact push16_ok (storeOk_of_ne_dma h1 _) (storeOk_of_ne_dma (storesOk_cons.1 h2).1 _)

theorem callTo_completes {s : State} (w : Word) (h : StoresOk [s.cpu.sp - 1, s.cpu.sp - 2]) : ∃ t, callTo w s = .ok t := by
  obtain ⟨u, hu⟩ := push16_completes s.cpu.pc h
  exact ⟨u.setPc w, by simp only [callTo, hu]⟩

theorem pop16_completes {s : State} (h : ReadsOk [s.cpu.sp, s.cpu.sp + 1]) : ∃ w t, pop16 s = .ok (w, t) := by
  obtain ⟨h1, h2⟩ := readsOk_cons.1 h
  obtain ⟨l, hl⟩ := busRead_ok_iff (s := s).2 h1
  obtain ⟨b, hb⟩ := busRead_ok_iff (s := s).2 (readsOk_cons.1 h2).1
  exact ⟨_, _, pop16_ok hl hb⟩

theorem popTo_completes {s : State} (q : QQ) (h : ReadsOk [s.cpu.sp, s.cpu.sp + 1]) : ∃ t, popTo q s = .ok t := by
  obtain ⟨w, t, ht⟩ := pop16_completes h
  exact ⟨t.setQq q w, by simp only [popTo, ht]⟩

theorem returnTo_completes {s : State} (h : ReadsOk [s.cpu.sp, s.cpu.sp + 1]) : ∃ t, returnTo s = .ok t := by
  obtain ⟨w, t, ht⟩ := pop16_completes h
  exact ⟨t.setPc w, by simp only [returnTo, ht]⟩

theorem returnFromInterrupt_completes {s : State} (h : ReadsOk [s.cpu.sp, s.cpu.sp + 1]) :
    ∃ t, returnFromInterrupt s = .ok t := by
  obtain ⟨t, ht⟩ := returnTo_completes h
  exact ⟨t.setIme true, by simp only [returnFromInterrupt, ht]⟩

/-! ## The body of an instruction -/

/-- The meaning of `i` in `s` is the body `r` finished with the instruction's count; the body stops at gaps only, and
completes when none of the addresses the instruction accesses is a gap and none starts a DMA copy. -/
structure IsBody (i : Instr) (s : State) (r : Except Fault State) : Prop where
  exec_eq : exec i s = finish (costOf s.cfg i s.cpu.flags) r
  onlyGap : OnlyGap r
  completes : ReadsOk (dataReads i s) → StoresOk (storeAddrs i s) → ∃ t, r = .ok t

/-- A body that accesses no memory. -/
theorem IsBody.of_ok {i : Instr} {s t : State} (h : exec i s = .next (t.setCycles (costOf s.cfg i s.cpu.flags))) :
    IsBody i s (.ok t) := ⟨h, .ok t, fun _ _ => ⟨t, rfl⟩⟩

/-- A body that runs when a condition holds, the instruction accessing memory only then. -/
theorem IsBody.of_cond {i : Instr} {s : State} {c : Bool} {r : Except Fault State}
    (h : exec i s = finish (costOf s.cfg i s.cpu.flags) (if c then r else .ok s)) (hr : OnlyGap r)
    (hok : c = true → ReadsOk (dataReads i s) → StoresOk (storeAddrs i s) → ∃ t, r = .ok t) :
    IsBody i s (if c then r else .ok s) := by
  cases c with
  | false => exact .of_ok h
  | true => exact ⟨h, hr, hok rfl⟩

/-- A body that reads an operand and writes registers. -/
theorem IsBody.of_withOperand {i : Instr} {s : State} {op : Byte → State → State} {r : R8}
    (h : exec i s = finish (costOf s.cfg i s.cpu.flags) (withOperand op r s)) (hreads : dataReads i s = s.r8Addrs r) :
    IsBody i s (withOperand op r s) :=
  ⟨h, onlyGap_withOperand op r s, fun hr _ => withOperand_completes (hreads ▸ hr)⟩

/-- A body that reads an operand and writes it back. -/
theorem IsBody.of_modifyOperand {i : Instr} {s : State} {op : Byte → Flags → Byte × Flags} {r : R8}
    (h : exec i s = finish (costOf s.cfg i s.cpu.flags) (modifyOperand op r s))
    (haccess : dataReads i s = s.r8Addrs r ∧ storeAddrs i s = s.r8Addrs r) : IsBody i s (modifyOperand op r s) :=
  ⟨h, onlyGap_modifyOperand op r s, fun hr hw => modifyOperand_completes (haccess.1 ▸ hr) (haccess.2 ▸ hw)⟩

/-! ## What the families access -/

theorem dataReads_ldR8R8 (s : State) {d q : R8} (h : ¬(d = .memHl ∧ q = .memHl)) :
    dataReads (.ldR8R8 d q) s = s.r8Addrs q := by
  rcases d with x | _ <;> rcases q with y | _
  · cases x <;> cases y <;> rfl
  · cases x <;> rfl
  · cases y <;> rfl
  · exact absurd ⟨rfl, rfl⟩ h

theorem storeAddrs_ldR8R8 (s : State) {d q : R8} (h : ¬(d = .memHl ∧ q = .memHl)) :
    storeAddrs (.ldR8R8 d q) s = s.r8Addrs d := by
  rcases d with x | _ <;> rcases q with y | _
  · cases x <;> cases y <;> rfl
  · cases x <;> rfl
  · cases y <;> rfl
  · exact absurd ⟨rfl, rfl⟩ h

theorem storeAddrs_ldR8D8 (s : State) (d : R8) (v : Byte) : storeAddrs (.ldR8D8 d v) s = s.r8Addrs d := by
  rcases d with (_ | _ | _ | _ | _ | _ | _) | _ <;> rfl

theorem accesses_incR8 (s : State) (r : R8) :
    dataReads (.incR8 r) s = s.r8Addrs r ∧ storeAddrs (.incR8 r) s = s.r8Addrs r := by
  rcases r with (_ | _ | _ | _ | _ | _ | _) | _ <;> exact ⟨rfl, rfl⟩

theorem accesses_decR8 (s : State) (r : R8) :
    dataReads (.decR8 r) s = s.r8Addrs r ∧ storeAddrs (.decR8 r) s = s.r8Addrs r := by
  rcases r with (_ | _ | _ | _ | _ | _ | _) | _ <;> exact ⟨rfl, rfl⟩

theorem dataReads_aluR8 (s : State) (op : AluOp) (r : R8) : dataReads (.aluR8 op r) s = s.r8Addrs r := by
  rcases r with (_ | _ | _ | _ | _ | _ | _) | _ <;> cases op <;> rfl

theorem accesses_rotR8 (s : State) (op : RotOp) (r : R8) :
    dataReads (.rotR8 op r) s = s.r8Addrs r ∧ storeAddrs (.rotR8 op r) s = s.r8Addrs r := by
  rcases r with (_ | _ | _ | _ | _ | _ | _) | _ <;> cases op <;> exact ⟨rfl, rfl⟩

theorem dataReads_bitR8 (s : State) (b : Oct) (r : R8) : dataReads (.bitR8 b r) s = s.r8Addrs r := by
  rcases r with (_ | _ | _ | _ | _ | _ | _) | _ <;> cases b <;> rfl

theorem accesses_resR8 (s : State) (b : Oct) (r : R8) :
    dataReads (.resR8 b r) s = s.r8Addrs r ∧ storeAddrs (.resR8 b r) s = s.r8Addrs r := by
  rcases r with (_ | _ | _ | _ | _ | _ | _) | _ <;> cases b <;> exact ⟨rfl, rfl⟩

theorem accesses_setR8 (s : State) (b : Oct) (r : R8) :
    dataReads (.setR8 b r) s = s.r8Addrs r ∧ storeAddrs (.setR8 b r) s = s.r8Addrs r := by
  rcases r with (_ | _ | _ | _ | _ | _ | _) | _ <;> cases b <;> exact ⟨rfl, rfl⟩

theorem dataReads_popQq (s : State) (q : QQ) : dataReads (.popQq q) s = [s.cpu.sp, s.cpu.sp + 1] := by cases q <;> rfl

theorem storeAddrs_pushQq (s : State) (q : QQ) : storeAddrs (.pushQq q) s = [s.cpu.sp - 1, s.cpu.sp - 2] := by
  cases q <;> rfl

theorem storeAddrs_rst (s : State) (t : Oct) : storeAddrs (.rst t) s = [s.cpu.sp - 1, s.cpu.sp - 2] := by cases t <;> rfl

theorem storeAddrs_callCc (s : State) (cc : Cond) (w : Word) :
    storeAddrs (.callCc cc w) s = if condHolds cc s.cpu.flags then [s.cpu.sp - 1, s.cpu.sp - 2] else [] := by
  cases cc <;> rfl

theorem dataReads_retCc (s : State) (cc : Cond) :
    dataReads (.retCc cc) s = if condHolds cc s.cpu.flags then [s.cpu.sp, s.cpu.sp + 1] else [] := by
  cases cc <;> rfl

/-- Every instruction but STOP has a body: the one its family's equation names, or the one of its own arm. -/
theorem exec_body (i : Instr) : ∀ s : State, (∀ pad, i ≠ .stop pad) → ∃ r, IsBody i s r := by
  revert i
  apply Instr.families (P := fun i => ∀ s : State, (∀ pad, i ≠ .stop pad) → ∃ r, IsBody i s r)
  case ldR8R8 =>
    intro d q h s _
    exact ⟨_, exec_ldR8R8 s h, onlyGap_move d q s, fun hr hw =>
      move_completes (dataReads_ldR8R8 s h ▸ hr) (storeAddrs_ldR8R8 s h ▸ hw)⟩
  case ldR8D8 =>
    intro d v s _
    exact ⟨_, exec_ldR8D8 s d v, onlyGap_writeR8 s d v, fun _ hw => writeR8_completes (storeAddrs_ldR8D8 s d v ▸ hw)⟩
  case incR8 => exact fun r s _ => ⟨_, .of_modifyOperand (exec_incR8 s r) (accesses_incR8 s r)⟩
  case decR8 => exact fun r s _ => ⟨_, .of_modifyOperand (exec_decR8 s r) (accesses_decR8 s r)⟩
  case aluR8 => exact fun op r s _ => ⟨_, .of_withOperand (exec_aluR8 s op r) (dataReads_aluR8 s op r)⟩
  case aluD8 => exact fun op v s _ => ⟨_, .of_ok (exec_aluD8 s op v)⟩
  case ldRrD16 => exact fun r w s _ => ⟨_, .of_ok (exec_ldRrD16 s r w)⟩
  case addHlRr => exact fun r s _ => ⟨_, .of_ok (exec_addHlRr s r)⟩
  case incRr => exact fun r s _ => ⟨_, .of_ok (exec_incRr s r)⟩
  case decRr => exact fun r s _ => ⟨_, .of_ok (exec_decRr s r)⟩
  case pushQq =>
    intro q s _
    exact ⟨_, exec_pushQq s q, onlyGap_push16 _ s, fun _ hw => push16_completes _ (storeAddrs_pushQq s q ▸ hw)⟩
  case popQq =>
    intro q s _
    exact ⟨_, exec_popQq s q, onlyGap_popTo q s, fun hr _ => popTo_completes q (dataReads_popQq s q ▸ hr)⟩
  case jrCc => exact fun cc e s _ => ⟨_, .of_cond (exec_jrCc s cc e) (.ok _) fun _ _ _ => ⟨_, rfl⟩⟩
  case jpCc => exact fun cc w s _ => ⟨_, .of_cond (exec_jpCc s cc w) (.ok _) fun _ _ _ => ⟨_, rfl⟩⟩
  case callCc =>
    intro cc w s _
    refine ⟨_, .of_cond (exec_callCc s cc w) (onlyGap_callTo w s) fun hc _ hw => callTo_completes w ?_⟩
    rwa [storeAddrs_callCc, if_pos hc] at hw
  case retCc =>
    intro cc s _
    refine ⟨_, .of_cond (exec_retCc s cc) (onlyGap_returnTo s) fun hc hr _ => returnTo_completes ?_⟩
    rwa [dataReads_retCc, if_pos hc] at hr
  case rst =>
    intro t s _
    exact ⟨_, exec_rst s t, onlyGap_callTo _ s, fun _ hw => callTo_completes _ (storeAddrs_rst s t ▸ hw)⟩
  case rotR8 => exact fun op r s _ => ⟨_, .of_modifyOperand (exec_rotR8 s op r) (accesses_rotR8 s op r)⟩
  case bitR8 => exact fun b r s _ => ⟨_, .of_withOperand (exec_bitR8 s b r) (dataReads_bitR8 s b r)⟩
  case resR8 => exact fun b r s _ => ⟨_, .of_modifyOperand (exec_resR8 s b r) (accesses_resR8 s b r)⟩
  case setR8 => exact fun b r s _ => ⟨_, .of_modifyOperand (exec_setR8 s b r) (accesses_setR8 s b r)⟩
  case stop => exact fun pad s h => absurd rfl (h pad)
  case unrecognized =>
    intro i hi s _
    cases i <;> cases hi <;> exact ⟨_, .of_ok rfl⟩
  case ldMemA16Sp =>
    exact fun a s _ => ⟨_, rfl, onlyGap_busWrite16 s a _, fun _ hw => busWrite16_completes hw⟩
  case ldMemBcA => exact fun s _ => ⟨_, rfl, onlyGap_storeA _ s, fun _ hw => storeA_completes hw⟩
  case ldMemDeA => exact fun s _ => ⟨_, rfl, onlyGap_storeA _ s, fun _ hw => storeA_completes hw⟩
  case ldMemA16A => exact fun a s _ => ⟨_, rfl, onlyGap_storeA _ s, fun _ hw => storeA_completes hw⟩
  case ldhMemA8A => exact fun a s _ => ⟨_, rfl, onlyGap_storeA _ s, fun _ hw => storeA_completes hw⟩
  case ldMemCA => exact fun s _ => ⟨_, rfl, onlyGap_storeA _ s, fun _ hw => storeA_completes hw⟩
  case ldMemHlIncA =>
    exact fun s _ => ⟨_, rfl, (onlyGap_storeA _ s).thenSet _, fun _ hw => thenSet_completes (storeA_completes hw) _⟩
  case ldMemHlDecA =>
    exact fun s _ => ⟨_, rfl, (onlyGap_storeA _ s).thenSet _, fun _ hw => thenSet_completes (storeA_completes hw) _⟩
  case ldAMemBc => exact fun s _ => ⟨_, rfl, onlyGap_loadA _ s, fun hr _ => loadA_completes hr⟩
  case ldAMemDe => exact fun s _ => ⟨_, rfl, onlyGap_loadA _ s, fun hr _ => loadA_completes hr⟩
  case ldAMemA16 => exact fun a s _ => ⟨_, rfl, onlyGap_loadA _ s, fun hr _ => loadA_completes hr⟩
  case ldhAMemA8 => exact fun a s _ => ⟨_, rfl, onlyGap_loadA _ s, fun hr _ => loadA_completes hr⟩
  case ldAMemC => exact fun s _ => ⟨_, rfl, onlyGap_loadA _ s, fun hr _ => loadA_completes hr⟩
  case ldAMemHlInc =>
    exact fun s _ => ⟨_, rfl, (onlyGap_loadA _ s).thenSet _, fun hr _ => thenSet_completes (loadA_completes hr) _⟩
  case ldAMemHlDec =>
    exact fun s _ => ⟨_, rfl, (onlyGap_loadA _ s).thenSet _, fun hr _ => thenSet_completes (loadA_completes hr) _⟩
  case ret => exact fun s _ => ⟨_, rfl, onlyGap_returnTo s, fun hr _ => returnTo_completes hr⟩
  case reti => exact fun s _ => ⟨_, rfl, onlyGap_returnFromInterrupt s, fun hr _ => returnFromInterrupt_completes hr⟩
  case callA16 => exact fun a s _ => ⟨_, rfl, onlyGap_callTo a s, fun _ hw => callTo_completes a hw⟩
  all_goals intros; exact ⟨_, .of_ok rfl⟩

end Sys2Proof.Machine
end

section
/-! PROOFS. What every instruction does, from the shape of its meaning: what stops it and a step (O13), when it completes
(O14), the count it returns (O17). -/

namespace Sys2Proof.Machine

/-! ## What stops an instruction -/

theorem exec_ne_refused (i : Instr) (s : State) (x : Refusal) : exec i s ≠ .refused x := by
  by_cases hstop : ∃ pad, i = .stop pad
  · obtain ⟨pad, rfl⟩ := hstop
    exact fun h => nomatch h
  · obtain ⟨r, hbody⟩ := exec_body i s (not_exists.1 hstop)
    rw [hbody.exec_eq]
    exact finish_ne_refused _ r x

/-- An instruction stops at a gap, or as STOP (rules R12, R230). -/
theorem exec_fault_inv {i : Instr} {s : State} {f : Fault} (h : exec i s = .fault f) :
    (∃ a, f = .gap a ∧ isGap a = true) ∨ (f = .stop ∧ ∃ pad, i = .stop pad) := by
  by_cases hstop : ∃ pad, i = .stop pad
  · obtain ⟨pad, rfl⟩ := hstop
    cases h
    exact .inr ⟨rfl, pad, rfl⟩
  · obtain ⟨r, hbody⟩ := exec_body i s (not_exists.1 hstop)
    rw [hbody.exec_eq, finish_fault_iff] at h
    exact .inl (hbody.onlyGap f h)

/-! ## What stops a step -/

/-- One of the three stops of rule R12. -/
def Fault.Named (f : Fault) : Prop := (∃ a, f = .gap a ∧ isGap a = true) ∨ f = .stop ∨ f = .pendingWithoutSource

theorem onlyGap_fetchBytes (s : State) : OnlyGap (fetchBytes s) := by
  intro f h
  unfold fetchBytes at h
  split at h
  · cases h; exact onlyGap_busRead _ _ _ ‹_›
  · split at h
    · cases h
    · split at h
      · cases h; exact onlyGap_busRead _ _ _ ‹_›
      · cases h
    · split at h
      · cases h; exact onlyGap_busRead _ _ _ ‹_›
      · split at h
        · cases h; exact onlyGap_busRead _ _ _ ‹_›
        · cases h

theorem onlyGap_fetchDecode (s : State) : OnlyGap (fetchDecode s) := by
  intro f h
  unfold fetchDecode at h
  split at h
  · cases h; exact onlyGap_fetchBytes _ _ ‹_›
  · cases h

/-- A service stops at a gap of the stack, or when no source is pending (rules R234, R238). -/
theorem takeInterrupt_error_named {s : State} {f : Fault} (h : takeInterrupt s = .error f) : f.Named := by
  unfold takeInterrupt at h
  split at h
  · split at h
    · cases h
    · rename_i hv
      cases h
      unfold pendingVector at hv
      split at hv <;> cases hv
      exact .inr (.inr rfl)
  · cases h; exact .inl (onlyGap_push16 _ _ _ ‹_›)

theorem serviceCheck_error_named {s : State} {f : Fault} (h : serviceCheck s = .error f) : f.Named := by
  unfold serviceCheck at h
  split at h
  · exact takeInterrupt_error_named h
  · cases h

/-- The end of an instruction stops where the instruction or the service does, and refuses what the instruction refuses. -/
theorem endOfInstruction_fault_inv {r : Result} {f : Fault} (h : endOfInstruction r = .fault f) :
    r = .fault f ∨ f.Named := by
  unfold endOfInstruction at h
  split at h
  · split at h
    · cases h
    · cases h; exact .inr (serviceCheck_error_named ‹_›)
  · cases h; exact .inl rfl
  · cases h

theorem endOfInstruction_ne_refused {r : Result} (hr : ∀ x, r ≠ .refused x) (x : Refusal) :
    endOfInstruction r ≠ .refused x := by
  cases r with
  | next s => unfold endOfInstruction; simp only; split <;> simp
  | fault f => exact fun h => nomatch h
  | refused y => exact absurd rfl (hr y)

theorem cpuStep_ne_refused (s : State) (x : Refusal) : cpuStep s ≠ .refused x := by
  unfold cpuStep
  split
  · exact fun h => nomatch h
  · split
    · exact fun h => nomatch h
    · exact endOfInstruction_ne_refused (exec_ne_refused _ _) x

theorem cpuStep_fault_named {s : State} {f : Fault} (h : cpuStep s = .fault f) : f.Named := by
  unfold cpuStep at h
  split at h
  · cases h
  · split at h
    · cases h; exact .inl (onlyGap_fetchDecode _ _ ‹_›)
    · rcases endOfInstruction_fault_inv h with hexec | hnamed
      · exact (exec_fault_inv hexec).imp_right fun hstop => .inl hstop.1
      · exact hnamed

/-- What follows the CPU step stops nothing. -/
theorem step_stops_iff (s : State) :
    (∀ f, step s = .fault f ↔ cpuStep s = .fault f) ∧ ∀ x, step s = .refused x ↔ cpuStep s = .refused x := by
  unfold step
  cases cpuStep s <;> simp

/-- Settles O13: the body of an instruction stops at gaps only; a step adds the fetch and the service. -/
theorem onlyTheNamedStops : Obligations.OnlyTheNamedStops := by
  refine ⟨fun i s => ⟨exec_ne_refused i s, fun _ => exec_fault_inv⟩, fun s => ⟨fun x hx => ?_, fun f hf => ?_⟩⟩
  · exact cpuStep_ne_refused s x ((step_stops_iff s).2 x |>.1 hx)
  · exact cpuStep_fault_named ((step_stops_iff s).1 f |>.1 hf)

/-! ## When an instruction completes -/

/-- Settles O14: the body completes under exactly these accesses. -/
theorem instructionsComplete : Obligations.InstructionsComplete := by
  intro i s hstop hr hw
  obtain ⟨r, hbody⟩ := exec_body i s hstop
  obtain ⟨t, rfl⟩ := hbody.completes hr hw
  exact ⟨_, hbody.exec_eq⟩

/-! ## The count -/

/-- An instruction that answers a next state returns its count. -/
theorem exec_next_cycles {i : Instr} {s t : State} (h : exec i s = .next t) :
    t.cycles = costOf s.cfg i s.cpu.flags := by
  by_cases hstop : ∃ pad, i = .stop pad
  · obtain ⟨pad, rfl⟩ := hstop
    cases h
  · obtain ⟨r, hbody⟩ := exec_body i s (not_exists.1 hstop)
    rw [hbody.exec_eq] at h
    exact finish_next_cycles h

/-- The grid's count of an instruction (rule R320): the second of its two when it is a conditional transfer whose condition
the flags meet. -/
def gridCount (i : Instr) (f : Flags) : Nat :=
  match i.cond with
  | some cc => if condHolds cc f then (cycOf i).2 else (cycOf i).1
  | none => (cycOf i).1

/-- A conditional transfer costs `n` cycles, and `x` more when its condition holds, in the parameters and in the grid. -/
theorem costOf_default_cond {i : Instr} {cc : Cond} {f : Flags} (n x : Nat) (hc : i.cond = some cc)
    (hcost : costOf Config.default i f = n + if condHolds cc f then x else 0) (hgrid : cycOf i = (n, n + x)) :
    costOf Config.default i f = gridCount i f := by
  simp only [gridCount, hc, hcost, hgrid]
  split <;> rfl

/-- At the defaults of R4 the parameters give every instruction the grid's count (rule R320). -/
theorem costOf_default (i : Instr) (f : Flags) : costOf Config.default i f = gridCount i f := by
  revert i
  apply Instr.families
  case jrCc => intro cc e; cases cc <;> exact costOf_default_cond 8 4 rfl rfl rfl
  case jpCc => intro cc w; cases cc <;> exact costOf_default_cond 12 4 rfl rfl rfl
  case callCc => intro cc w; cases cc <;> exact costOf_default_cond 12 12 rfl rfl rfl
  case retCc => intro cc; cases cc <;> exact costOf_default_cond 8 12 rfl rfl rfl
  case ldR8R8 => rintro ((_ | _ | _ | _ | _ | _ | _) | _) ((_ | _ | _ | _ | _ | _ | _) | _) _ <;> rfl
  case ldR8D8 => rintro ((_ | _ | _ | _ | _ | _ | _) | _) v <;> rfl
  case incR8 => rintro ((_ | _ | _ | _ | _ | _ | _) | _) <;> rfl
  case decR8 => rintro ((_ | _ | _ | _ | _ | _ | _) | _) <;> rfl
  case aluR8 => rintro op ((_ | _ | _ | _ | _ | _ | _) | _) <;> cases op <;> rfl
  case rotR8 => rintro op ((_ | _ | _ | _ | _ | _ | _) | _) <;> cases op <;> rfl
  case bitR8 => rintro b ((_ | _ | _ | _ | _ | _ | _) | _) <;> cases b <;> rfl
  case resR8 => rintro b ((_ | _ | _ | _ | _ | _ | _) | _) <;> cases b <;> rfl
  case setR8 => rintro b ((_ | _ | _ | _ | _ | _ | _) | _) <;> cases b <;> rfl
  case aluD8 => intro op v; cases op <;> rfl
  case ldRrD16 => intro r w; cases r <;> rfl
  case addHlRr => intro r; cases r <;> rfl
  case incRr => intro r; cases r <;> rfl
  case decRr => intro r; cases r <;> rfl
  case pushQq => intro q; cases q <;> rfl
  case popQq => intro q; cases q <;> rfl
  case rst => intro t; cases t <;> rfl
  case unrecognized => intro i hi; cases i <;> cases hi <;> rfl
  all_goals intros; rfl

theorem costOf_of_prefix {c : Config} {i : Instr} {f : Flags} {rest : List Byte} (hu : ¬i.isUnrecognized = true)
    (he : encode i = 0xCB :: rest) : costOf c i f = c.costCb (rest.headD 0) := by
  rw [costOf, Bool.eq_false_of_not_eq_true hu, he]
  rfl

theorem costOf_of_opcode {c : Config} {i : Instr} {f : Flags} {op : Byte} {rest : List Byte}
    (hu : ¬i.isUnrecognized = true) (he : encode i = op :: rest) (hop : op ≠ 0xCB) :
    costOf c i f = c.cost op + if i.cond.any (condHolds · f) then c.takenExtra op else 0 := by
  rw [costOf, Bool.eq_false_of_not_eq_true hu, he]
  simp only [if_neg hop]
  cases i.cond <;> rfl

/-- Settles O17: the count of the body is `costOf`; at the defaults that is the grid's. -/
theorem cycleCounts : Obligations.CycleCounts := by
  intro i s t h
  rw [exec_next_cycles h]
  refine ⟨?_, fun hdefault => (hdefault.costOf_eq i _).trans (costOf_default i _)⟩
  split
  · rename_i hu; rw [costOf, hu]
  · rename_i hu
    split
    · rename_i he; rw [costOf, Bool.eq_false_of_not_eq_true hu, he]
    · rename_i he; exact costOf_of_prefix hu he
    · rename_i hne he; exact costOf_of_opcode hu he hne

end Sys2Proof.Machine
end

section
/-! PROOFS. The stack in work RAM: a push and the pop after it (O27). -/

namespace Sys2Proof.Machine

/-- Memory after a word is pushed on a stack pointer in work RAM. -/
def State.pushedRam (s : State) (w : Word) : Memory :=
  (s.ram.write (s.cpu.sp - 1).toNat (hiByte w)).write (s.cpu.sp - 2).toNat (loByte w)

/-- A push with both bytes in work RAM writes them there and lowers SP by two. -/
theorem push16_wram {s : State} (w : Word) (hlo : 0xC002 ≤ s.cpu.sp.toNat) (hhi : s.cpu.sp.toNat ≤ 0xE000) :
    push16 w s = .ok (State.setSp { s with ram := s.pushedRam w } (s.cpu.sp - 2)) := by
  have h1 : (s.cpu.sp - 1).toNat = s.cpu.sp.toNat - 1 := by bv_omega
  have h2 : (s.cpu.sp - 2).toNat = s.cpu.sp.toNat - 2 := by bv_omega
  rw [push16_eq, busWrite_wram (by omega) (by omega)]
  simp only
  rw [busWrite_wram (by omega) (by omega)]
  rfl

/-- A pop right above the two bytes of a push gives the pushed word back, whatever else of the state differs. -/
theorem pop16_pushedRam {s t : State} (w : Word) (hwf : s.ram.wf = true) (hlo : 0xC002 ≤ s.cpu.sp.toNat)
    (hhi : s.cpu.sp.toNat ≤ 0xE000) (hram : t.ram = s.pushedRam w) (hsp : t.cpu.sp = s.cpu.sp - 2) :
    pop16 t = .ok (w, t.setSp s.cpu.sp) := by
  have h1 : (s.cpu.sp - 1).toNat = s.cpu.sp.toNat - 1 := by bv_omega
  have h2 : (s.cpu.sp - 2).toNat = s.cpu.sp.toNat - 2 := by bv_omega
  have hsp1 : t.cpu.sp + 1 = s.cpu.sp - 1 := by rw [hsp]; bv_omega
  have hlow : busRead t t.cpu.sp = .ok (loByte w) := by
    rw [hsp, busRead_wram (by omega) (by omega), hram]
    exact congrArg _ (Memory.read_write_same (Memory.wf_write hwf _ _) _ _)
  have hhigh : busRead t (t.cpu.sp + 1) = .ok (hiByte w) := by
    rw [hsp1, busRead_wram (by omega) (by omega), hram]
    exact congrArg _ ((Memory.read_write_other _ (by omega) _).trans (Memory.read_write_same hwf _ _))
  rw [pop16_ok hlow hhigh, mkWord_hiByte_loByte, show t.cpu.sp + 2 = s.cpu.sp by rw [hsp]; bv_omega]

/-- Masking F as a byte is masking AF as a word (rules R21, R146). -/
theorem mkWord_and_lowNibble (h l : Byte) : mkWord h (l &&& 0xF0) = mkWord h l &&& 0xFFF0 := by
  show h ++ (l &&& 0xF0) = (h ++ l) &&& ((0xFF : Byte) ++ (0xF0 : Byte))
  rw [BitVec.and_append, show h &&& 0xFF = h from BitVec.and_allOnes]

/-- A pair holds the word written to it, AF without the low nibble of F (rules R21, R22). -/
theorem State.qq_setQq_same (s : State) (q : QQ) (w : Word) :
    (s.setQq q w).qq q = if q = .af then w &&& 0xFFF0 else w := by
  cases q with
  | bc => exact State.setBc_bc s w
  | de => exact State.setDe_de s w
  | hl => exact State.setHl_hl s w
  | af =>
    show mkWord (hiByte w) (Flags.ofByte (loByte w)).toByte = w &&& 0xFFF0
    rw [Flags.toByte_ofByte, mkWord_and_lowNibble, mkWord_hiByte_loByte]

theorem State.setQq_cpu_sp (s : State) (q : QQ) (w : Word) : (s.setQq q w).cpu.sp = s.cpu.sp := by cases q <;> rfl

/-- A pop that reads a word completes with it in its pair (rule R145). -/
theorem exec_popQq_of_pop16 {q : QQ} {s t : State} {w : Word} (h : pop16 s = .ok (w, t)) :
    exec (.popQq q) s = .next ((t.setQq q w).setCycles (costOf s.cfg (.popQq q) s.cpu.flags)) := by
  rw [exec_popQq, popTo, h, finish_ok]

/-- Settles O27: both bytes of the stack are in work RAM, so the pop reads what the push wrote. -/
theorem pushPopRoundTrip : Obligations.PushPopRoundTrip := by
  intro s q p hwf hlo hhi
  have hpush : exec (.pushQq q) s = .next ((State.setSp { s with ram := s.pushedRam (s.qq q) } (s.cpu.sp - 2)).setCycles
      (costOf s.cfg (.pushQq q) s.cpu.flags)) := by
    rw [exec_pushQq, push16_wram _ hlo hhi, finish_ok]
  refine ⟨_, _, hpush, exec_popQq_of_pop16 (pop16_pushedRam (s.qq q) hwf hlo hhi rfl rfl), ?_, ?_⟩
  · exact State.setQq_cpu_sp _ p _
  · exact State.qq_setQq_same _ p _

end Sys2Proof.Machine
end

section
/-! PROOFS. The invariant of the machine: what the exits of the PPU's modes keep, and with it every step (O58). -/

namespace Sys2Proof.Machine

/-- What every exit of a mode keeps, whatever the count: the part of the invariant that the PPU's loop can touch. -/
structure State.DrawInv (s : State) : Prop where
  line_ok : s.ppu.mode.lineOk s.ppu.line
  cache_le : s.ppu.cache.length ≤ Config.spritesPerLine
  pb_wf : s.pb.wf = true

theorem State.Inv.drawInv {s : State} (h : s.Inv) : s.DrawInv := ⟨h.ppu_legal.line_ok, h.ppu_legal.cache_le, h.pb_wf⟩

/-- The next mode may have the next line (rules R251, R253, R254). -/
theorem nextLine_lineOk {m : Mode} {n : Nat} (h : m.lineOk n) : (nextLine m n).1.lineOk (nextLine m n).2 := by
  cases m with
  | oamSearch => exact h
  | lineRender => exact Nat.succ_le_of_lt h
  | hblank =>
    simp only [nextLine]
    split
    · subst_vars; exact ⟨le_rfl, by decide⟩
    · exact Nat.lt_of_le_of_ne h ‹_›
  | vblank =>
    simp only [nextLine]
    obtain ⟨hlo, hhi⟩ := h
    split
    · exact (by decide : 0 < Config.visibleLines)
    · exact ⟨Nat.le_succ_of_le hlo, Nat.lt_of_le_of_ne hhi ‹_›⟩

/-- Drawing a visible line keeps the pixel buffer canonical (rule R34). -/
theorem renderLine_pb_wf {s : State} (h : s.pb.wf = true) {n : Nat} (hn : n < Config.visibleLines) :
    (renderLine s n).pb.wf = true :=
  PixelBuffer.wf_setRow h hn (by rw [List.length_map, renderRow_length])

theorem exitMode_drawInv {s : State} (h : s.DrawInv) : (exitMode s).DrawInv := by
  obtain ⟨hnext, -, -, hcache⟩ := exitMode_ppu s
  obtain ⟨hmode, hline⟩ := Prod.mk.inj hnext
  refine ⟨?_, ?_, ?_⟩
  · rw [hmode, hline]; exact nextLine_lineOk h.line_ok
  · exact hcache.elim (fun hsame => hsame ▸ h.cache_le) id
  · rw [exitMode_pb]
    split
    case isTrue hm => exact renderLine_pb_wf h.pb_wf (hm ▸ h.line_ok :)
    case isFalse => exact h.pb_wf

theorem withCnt_drawInv {s : State} (h : s.DrawInv) (n : Nat) : (s.withCnt n).DrawInv := ⟨h.line_ok, h.cache_le, h.pb_wf⟩

/-- A tick leaves the PPU legal and the pixel buffer canonical. -/
theorem ppuTick_legal {s : State} (h : s.DrawInv) (c : Nat) :
    (ppuTick c s).ppu.Legal ∧ (ppuTick c s).pb.wf = true := by
  by_cases hon : s.ppu.lcdc.getLsbD 7 = true
  · rw [ppuTick_on hon]
    have hd := settle_induct (P := State.DrawInv) (fun _ n hs => withCnt_drawInv (exitMode_drawInv hs) n) _
      (withCnt_drawInv h (s.ppu.cnt + c))
    exact ⟨⟨settle_cnt_lt _, hd.line_ok, hd.cache_le⟩, hd.pb_wf⟩
  · have hoff : ppuTick c s = { s with ppu := { s.ppu with mode := .hblank, line := 0, cnt := 0 } } := if_neg hon
    rw [hoff]
    exact ⟨⟨Nat.zero_lt_of_lt (budget_ge .hblank), Nat.zero_le _, h.cache_le⟩, h.pb_wf⟩

/-- What an instruction keeps includes the invariant. -/
theorem Kept.inv {s t : State} (hk : Kept s t) (h : s.Inv) : t.Inv where
  cfg_wf := hk.cfg ▸ h.cfg_wf
  ram_wf := hk.ram_wf h.ram_wf
  pb_wf := hk.pb ▸ h.pb_wf
  ppu_legal :=
    ⟨by rw [hk.cnt, hk.mode]; exact h.ppu_legal.cnt_lt, by rw [hk.mode, hk.line]; exact h.ppu_legal.line_ok,
      by rw [hk.cache]; exact h.ppu_legal.cache_le⟩
  bank_ne := hk.bank_ne h.bank_ne

/-- What follows a CPU step keeps the parameters. -/
theorem afterCpuStep_cfg (s : State) : (afterCpuStep s).cfg = s.cfg := by rw [AfterStep.afterCpuStep s]

/-- What follows a CPU step keeps the invariant. -/
theorem afterCpuStep_inv {s : State} (h : s.Inv) : (afterCpuStep s).Inv := by
  obtain ⟨hlegal, hpb⟩ := ppuTick_legal h.drawInv s.cycles
  obtain ⟨hppu, hpb'⟩ := externalAgent_ppu (ppuTick s.cycles s)
  have hram : (afterCpuStep s).ram = s.ram := by rw [AfterStep.afterCpuStep s]
  have hbank : (afterCpuStep s).romBank = s.romBank := by rw [AfterStep.afterCpuStep s]
  exact ⟨(afterCpuStep_cfg s).symm ▸ h.cfg_wf, hram.symm ▸ h.ram_wf, hpb'.symm ▸ hpb, hppu.symm ▸ hlegal,
    hbank.symm ▸ h.bank_ne⟩

/-- What a step that answers a next state did: one CPU step, and what follows it. -/
theorem step_next_inv {s t : State} (h : step s = .next t) : ∃ u, cpuStep s = .next u ∧ t = afterCpuStep u := by
  unfold step at h
  split at h
  · cases h; exact ⟨_, ‹_›, rfl⟩
  · cases h
  · cases h

/-- Settles O58: the CPU step keeps the invariant since it is `Kept`; the tick keeps it since every exit of a mode does. -/
theorem stepKeepsInv : Obligations.StepKeepsInv := by
  intro s t hs hstep
  obtain ⟨u, hu, rfl⟩ := step_next_inv hstep
  have hk : Kept s u := cpuStep_kept hu
  exact ⟨afterCpuStep_inv (hk.inv hs), (afterCpuStep_cfg u).trans hk.cfg⟩

end Sys2Proof.Machine
end

section
/-! PROOFS. IME and `halted`: what every instruction but EI, RETI, DI and HALT leaves alone (O11). -/

namespace Sys2Proof.Machine

/-- IME and `halted` are as before (rules R26, R27). -/
structure SameControl (s t : State) : Prop where
  ime : t.cpu.ime = s.cpu.ime
  halted : t.cpu.halted = s.cpu.halted

theorem SameControl.trans {s t u : State} (h : SameControl s t) (h' : SameControl t u) : SameControl s u :=
  ⟨h'.ime.trans h.ime, h'.halted.trans h.halted⟩

theorem SameControl.of_cpu_eq {s t : State} (h : t.cpu = s.cpu) : SameControl s t := ⟨by rw [h], by rw [h]⟩

theorem SameControl.setReg (s : State) (r : Reg) (v : Byte) : SameControl s (s.setReg r v) := by constructor <;> simp
theorem SameControl.setRr (s : State) (r : RR) (w : Word) : SameControl s (s.setRr r w) := by cases r <;> exact ⟨rfl, rfl⟩
theorem SameControl.setQq (s : State) (q : QQ) (w : Word) : SameControl s (s.setQq q w) := by cases q <;> exact ⟨rfl, rfl⟩

theorem SameControl.aluA (op : AluOp) (v : Byte) (s : State) : SameControl s (aluA op v s) := by
  cases op <;> exact ⟨rfl, rfl⟩

theorem SameControl.busWrite {s t : State} {a : Word} {v : Byte} (h : busWrite s a v = .ok t) : SameControl s t :=
  .of_cpu_eq (busWrite_inv h).1.cpu

theorem SameControl.busWrite16 {s t : State} {a w : Word} (h : busWrite16 s a w = .ok t) : SameControl s t := by
  obtain ⟨u, hlow, hhigh⟩ := busWrite16_inv h
  exact (SameControl.busWrite hlow).trans (.busWrite hhigh)

theorem SameControl.push16 {w : Word} {s t : State} (h : push16 w s = .ok t) : SameControl s t := by
  constructor <;> rw [push16_cpu h]

theorem SameControl.callTo {w : Word} {s t : State} (h : callTo w s = .ok t) : SameControl s t := by
  obtain ⟨u, hu, rfl⟩ := callTo_inv h
  exact (SameControl.push16 hu).trans ⟨rfl, rfl⟩

theorem SameControl.returnTo {s t : State} (h : returnTo s = .ok t) : SameControl s t := by
  obtain ⟨l, b, -, -, rfl⟩ := returnTo_inv h
  exact ⟨rfl, rfl⟩

theorem SameControl.popTo {q : QQ} {s t : State} (h : popTo q s = .ok t) : SameControl s t := by
  obtain ⟨l, b, -, -, rfl⟩ := popTo_inv h
  have hsp : SameControl s (s.setSp (s.cpu.sp + 2)) := ⟨rfl, rfl⟩
  exact hsp.trans (.setQq _ q _)

theorem SameControl.writeR8 {s t : State} {r : R8} {v : Byte} (h : writeR8 s r v = .ok t) : SameControl s t := by
  cases r with
  | reg r => cases h; exact .setReg s r v
  | memHl => exact .busWrite h

theorem SameControl.move {d q : R8} {s t : State} (h : move d q s = .ok t) : SameControl s t := by
  obtain ⟨v, -, hw⟩ := move_inv h
  exact .writeR8 hw

theorem SameControl.modifyOperand {op : Byte → Flags → Byte × Flags} {r : R8} {s t : State}
    (h : modifyOperand op r s = .ok t) : SameControl s t := by
  obtain ⟨v, u, -, hw, rfl⟩ := modifyOperand_inv h
  exact (SameControl.writeR8 hw).trans ⟨rfl, rfl⟩

theorem SameControl.withOperand {op : Byte → State → State} {r : R8} {s t : State} (h : withOperand op r s = .ok t)
    (hop : ∀ v, SameControl s (op v s)) : SameControl s t := by
  obtain ⟨v, -, rfl⟩ := withOperand_inv h
  exact hop v

theorem SameControl.loadA {a : Word} {s t : State} (h : loadA a s = .ok t) : SameControl s t := by
  obtain ⟨v, -, rfl⟩ := loadA_inv h
  exact .setReg s .a v

/-- An access through HL, then HL stepped (rules R125 to R128). -/
theorem SameControl.thenStepHl {r : Except Fault State} {d : Word} {s t : State} (h : thenSet r (stepHl d) = .ok t)
    (hr : ∀ u, r = .ok u → SameControl s u) : SameControl s t := by
  obtain ⟨u, hu, rfl⟩ := thenSet_inv h
  exact (hr u hu).trans ⟨rfl, rfl⟩

theorem SameControl.setCycles {s t : State} (h : SameControl s t) (n : Nat) : SameControl s (t.setCycles n) :=
  ⟨h.ime, h.halted⟩

/-- An instruction whose body leaves the two bits alone does. -/
theorem SameControl.finish {n : Nat} {r : Except Fault State} {s t : State} (h : finish n r = .next t)
    (hr : ∀ u, r = .ok u → SameControl s u) : SameControl s t := by
  obtain ⟨u, hu, rfl⟩ := finish_next_iff.1 h
  exact (hr u hu).setCycles n

/-- The same of a body that runs when a condition holds. -/
theorem SameControl.finishIf {n : Nat} {p : Bool} {r : Except Fault State} {s t : State}
    (h : Machine.finish n (if p then r else .ok s) = .next t) (hr : ∀ u, r = .ok u → SameControl s u) :
    SameControl s t := by
  cases p with
  | true => exact .finish h hr
  | false => cases h; exact ⟨rfl, rfl⟩

/-- The instructions that write IME or `halted` (rules R26, R27). -/
def controlWriters : List Instr := [.ei, .reti, .di, .halt]

/-- Every other instruction leaves the two bits alone. -/
theorem exec_sameControl (i : Instr) : i ∉ controlWriters → ∀ s t : State, exec i s = .next t → SameControl s t := by
  revert i
  apply Instr.families (P := fun i => i ∉ controlWriters → ∀ s t : State, exec i s = .next t → SameControl s t)
  case ldR8R8 => intro r q h _ s t ht; rw [exec_ldR8R8 s h] at ht; exact .finish ht fun _ => .move
  case ldR8D8 => intro r v _ s t ht; rw [exec_ldR8D8] at ht; exact .finish ht fun _ => .writeR8
  case incR8 => intro r _ s t ht; rw [exec_incR8] at ht; exact .finish ht fun _ => .modifyOperand
  case decR8 => intro r _ s t ht; rw [exec_decR8] at ht; exact .finish ht fun _ => .modifyOperand
  case aluR8 =>
    intro op r _ s t ht; rw [exec_aluR8] at ht
    exact .finish ht fun _ hu => .withOperand hu fun v => .aluA op v s
  case aluD8 => intro op v _ s t ht; rw [exec_aluD8] at ht; cases ht; exact (SameControl.aluA op v s).setCycles _
  case ldRrD16 => intro r w _ s t ht; rw [exec_ldRrD16] at ht; cases ht; exact (SameControl.setRr s r w).setCycles _
  case addHlRr => intro r _ s t ht; rw [exec_addHlRr] at ht; cases ht; exact ⟨rfl, rfl⟩
  case incRr => intro r _ s t ht; rw [exec_incRr] at ht; cases ht; exact (SameControl.setRr s r _).setCycles _
  case decRr => intro r _ s t ht; rw [exec_decRr] at ht; cases ht; exact (SameControl.setRr s r _).setCycles _
  case pushQq => intro q _ s t ht; rw [exec_pushQq] at ht; exact .finish ht fun _ => .push16
  case popQq => intro q _ s t ht; rw [exec_popQq] at ht; exact .finish ht fun _ => .popTo
  case jrCc =>
    intro cc e _ s t ht; rw [exec_jrCc] at ht
    exact .finishIf ht fun u hu => by cases hu; exact ⟨rfl, rfl⟩
  case jpCc =>
    intro cc w _ s t ht; rw [exec_jpCc] at ht
    exact .finishIf ht fun u hu => by cases hu; exact ⟨rfl, rfl⟩
  case callCc => intro cc w _ s t ht; rw [exec_callCc] at ht; exact .finishIf ht fun _ => .callTo
  case retCc => intro cc _ s t ht; rw [exec_retCc] at ht; exact .finishIf ht fun _ => .returnTo
  case rst => intro k _ s t ht; rw [exec_rst] at ht; exact .finish ht fun _ => .callTo
  case rotR8 => intro op r _ s t ht; rw [exec_rotR8] at ht; exact .finish ht fun _ => .modifyOperand
  case bitR8 =>
    intro b r _ s t ht; rw [exec_bitR8] at ht
    exact .finish ht fun _ hu => .withOperand hu fun _ => ⟨rfl, rfl⟩
  case resR8 => intro b r _ s t ht; rw [exec_resR8] at ht; exact .finish ht fun _ => .modifyOperand
  case setR8 => intro b r _ s t ht; rw [exec_setR8] at ht; exact .finish ht fun _ => .modifyOperand
  case unrecognized => intro i hi _ s t ht; cases i <;> cases hi <;> cases ht <;> exact ⟨rfl, rfl⟩
  case stop => intro _ _ s t ht; cases ht
  case ei | reti | di | halt => intro hi; exact absurd (by decide) hi
  case ldMemA16Sp => intro a _ s t ht; exact .finish ht fun _ => .busWrite16
  case ldMemBcA | ldMemDeA | ldMemCA => intro _ s t ht; exact .finish ht fun _ => .busWrite
  case ldMemA16A | ldhMemA8A => intro a _ s t ht; exact .finish ht fun _ => .busWrite
  case ldMemHlIncA | ldMemHlDecA =>
    intro _ s t ht; exact .finish ht fun _ hu => .thenStepHl hu fun _ => .busWrite
  case ldAMemBc | ldAMemDe | ldAMemC => intro _ s t ht; exact .finish ht fun _ => .loadA
  case ldAMemA16 | ldhAMemA8 => intro a _ s t ht; exact .finish ht fun _ => .loadA
  case ldAMemHlInc | ldAMemHlDec =>
    intro _ s t ht; exact .finish ht fun _ hu => .thenStepHl hu fun _ => .loadA
  case ret => intro _ s t ht; exact .finish ht fun _ => .returnTo
  case callA16 => intro a _ s t ht; exact .finish ht fun _ => .callTo
  all_goals intros; rename_i s t ht; cases ht; exact ⟨rfl, rfl⟩

/-- RETI sets IME and leaves `halted` alone (rule R210). -/
theorem exec_reti_control {s t : State} (h : exec .reti s = .next t) :
    t.cpu.ime = true ∧ t.cpu.halted = s.cpu.halted := by
  obtain ⟨u, hu, rfl⟩ := finish_next_iff.1 (show finish (s.cfg.cost 0xD9) (returnFromInterrupt s) = .next t from h)
  obtain ⟨v, hv, rfl⟩ := returnFromInterrupt_inv hu
  exact ⟨rfl, (SameControl.returnTo hv).halted⟩

/-- Settles O11: the four writers one by one, and `exec_sameControl` for every other instruction. -/
theorem controlBitsFrame : Obligations.ControlBitsFrame := by
  intro i s t h
  by_cases hi : i ∈ controlWriters
  · simp only [controlWriters, List.mem_cons, List.not_mem_nil, or_false] at hi
    rcases hi with rfl | rfl | rfl | rfl
    case inr.inl => exact exec_reti_control h
    all_goals cases h; exact ⟨rfl, rfl⟩
  · obtain ⟨hime, hhalted⟩ := exec_sameControl i hi s t h
    constructor
    · split
      case h_4 => exact hime
      all_goals exact absurd (by decide) hi
    · split
      case h_1 => exact absurd (by decide) hi
      case h_2 => exact hhalted

end Sys2Proof.Machine
end

section
/-! PROOFS. What a CPU step leaves alone, and the bounds of its count (O18). -/

namespace Sys2Proof.Machine

theorem encode_ne_nil (i : Instr) : encode i ≠ [] := by cases i <;> exact List.cons_ne_nil _ _

/-- The counts of the grid by first byte, the extra of a taken transfer included (rule R320). -/
theorem default_cost_bounds : ∀ op : Byte, op ≠ 0xCB →
    4 ≤ Config.default.cost op ∧ Config.default.cost op + Config.default.takenExtra op ≤ 24 := by decide

theorem default_costCb_bounds : ∀ sub : Byte, 4 ≤ Config.default.costCb sub ∧ Config.default.costCb sub ≤ 24 := by decide

/-- By default an instruction takes 4 to 24 cycles (rule R320). -/
theorem default_costOf_bounds (i : Instr) (f : Flags) :
    4 ≤ costOf Config.default i f ∧ costOf Config.default i f ≤ 24 := by
  by_cases hu : i.isUnrecognized = true
  · simp only [costOf, hu]; decide
  · obtain ⟨op, rest, he⟩ := List.exists_cons_of_ne_nil (encode_ne_nil i)
    by_cases hop : op = 0xCB
    · rw [costOf_of_prefix hu (hop ▸ he)]
      exact default_costCb_bounds _
    · rw [costOf_of_opcode hu he hop]
      obtain ⟨hlo, hhi⟩ := default_cost_bounds op hop
      split <;> omega

/-- A service adds its penalty to the count (rule R238). -/
theorem takeInterrupt_cycles {s t : State} (h : takeInterrupt s = .ok t) : t.cycles = s.cycles + Config.intPenalty := by
  obtain ⟨u, src, hu, -, rfl⟩ := takeInterrupt_inv h
  obtain ⟨t1, t2, h1, h2, rfl⟩ := push16_inv hu
  show t2.cycles + _ = _
  rw [(busWrite_inv h2).1.cycles, (busWrite_inv h1).1.cycles, State.setIme_cycles]

/-- The end of an instruction keeps its count, or adds the penalty of a service. -/
theorem endOfInstruction_cycles {r : Result} {t : State} (h : endOfInstruction r = .next t) :
    ∃ u, r = .next u ∧ (t.cycles = u.cycles ∨ t.cycles = u.cycles + Config.intPenalty) := by
  obtain ⟨u, rfl, hu⟩ := endOfInstruction_inv h
  have hwake : (wakeAfter u).cycles = u.cycles := by rw [wakeAfter_eq, State.setHalted_cycles]
  refine ⟨u, rfl, ?_⟩
  rcases serviceCheck_inv hu with ⟨-, -, htake⟩ | ⟨-, rfl⟩
  · exact .inr (by rw [takeInterrupt_cycles htake, hwake])
  · exact .inl hwake

theorem fetchDecode_cfg {s u : State} {i : Instr} (h : fetchDecode s = .ok (i, u)) : u.cfg = s.cfg := by
  unfold fetchDecode at h
  split at h <;> cases h
  rfl

/-- What a CPU step that answers a next state did: it stayed halted, or it ran an instruction to its end (rule R235). -/
theorem cpuStep_next_inv {s t : State} (h : cpuStep s = .next t) :
    (s.staysHalted = true ∧ t = s.setCycles Config.haltStepCost) ∨
    (s.staysHalted = false ∧ ∃ i u, fetchDecode (s.setHalted false) = .ok (i, u) ∧
      endOfInstruction (exec i u) = .next t) := by
  unfold cpuStep at h
  split at h
  · cases h; exact .inl ⟨‹_›, rfl⟩
  · split at h
    · cases h
    · exact .inr ⟨Bool.eq_false_of_not_eq_true ‹_›, _, _, ‹_›, h⟩

/-- With the default parameters a CPU that does not stay halted returns the 4 to 24 cycles of an instruction, and 20 more
when it takes an interrupt. -/
theorem cpuStep_cycles_bounds {s t : State} (hcost : DefaultCosts s.cfg) (h : cpuStep s = .next t) :
    1 ≤ t.cycles ∧ t.cycles ≤ 44 ∧ (s.staysHalted = false → 4 ≤ t.cycles) := by
  rcases cpuStep_next_inv h with ⟨hhalt, rfl⟩ | ⟨-, i, u, hfetch, hend⟩
  · exact ⟨le_rfl, (by decide : Config.haltStepCost ≤ 44), fun hawake => absurd hhalt (by rw [hawake]; decide)⟩
  · obtain ⟨v, hexec, hcycles⟩ := endOfInstruction_cycles hend
    have hcount : v.cycles = costOf Config.default i u.cpu.flags := by
      rw [exec_next_cycles hexec, fetchDecode_cfg hfetch]
      exact hcost.costOf_eq i _
    obtain ⟨hlo, hhi⟩ := default_costOf_bounds i u.cpu.flags
    have hpenalty : Config.intPenalty = 20 := rfl
    omega

/-- Settles O18: the frame is what every CPU step keeps; the bounds are those of an instruction's count and the service. -/
theorem cpuStepFrame : Obligations.CpuStepFrame := by
  intro s t h
  have hk : Kept s t := cpuStep_kept h
  exact ⟨⟨hk.mode, hk.cnt, hk.line, hk.cache, hk.lycEq, hk.pb, hk.cfg, hk.buttons, hk.agent⟩,
    fun hcost => cpuStep_cycles_bounds hcost h⟩

end Sys2Proof.Machine
end

section
/-! PROOFS. The drawn row in the words of the statement: numbers read from video RAM, for the renderer's colours (O56). -/

namespace Sys2Proof.Machine

/-- Drawing a line replaces its row. -/
theorem renderLine_row {s : State} (h : s.pb.wf = true) (line : Nat) :
    (renderLine s line).pb.row line = (renderRow s line).map (pixelRgb s) := PixelBuffer.row_setRow_same h line _

/-- An entry of the drawn row is the shade of its pixel (rule R261). -/
theorem renderLine_row_getElem? {s : State} (h : s.pb.wf = true) {line px : Nat} {x : Pixel}
    (hx : (renderRow s line)[px]? = some x) : ((renderLine s line).pb.row line)[px]? = some (pixelRgb s x) := by
  rw [renderLine_row h, List.getElem?_map, hx, Option.map_some]

/-- The window's or the background's pixel as the statement writes it (rules R258, R259). -/
theorem basePixel_colour_toNat (s : State) (line px : Nat) :
    (basePixel s line px).colour.toNat =
      if s.ppu.lcdc.getLsbD 5 = true ∧ s.ppu.wy.toNat ≤ line ∧ s.ppu.wx.toNat ≤ px + 7 then (winPixel s px line).toNat
      else (bgPixel s px line).toNat := by
  rw [basePixel_colour]; split <;> rfl

/-- Settles O56: `renderRow_under` and `renderRow_sprite` say which pixel a column shows; their colours are read as numbers
from the planes of a tile. -/
theorem rendersOneRow : Obligations.RendersOneRow := by
  intro s line hwf lcdc vram plane tile map under ink shade row
  have hplane : ∀ addr r k, (tilePixel s addr r k).toNat = plane addr r k := tilePixel_toNat s
  have hunder : ∀ px, (basePixel s line px).colour.toNat = under px := by
    intro px
    rw [basePixel_colour_toNat]
    simp only [winPixel, bgPixel, mapPixel, hplane]
    rfl
  have hink : ∀ o px, (spriteInk s line o px).toNat = ink o px := by
    intro o px
    rw [spriteInk_toNat, hplane]
  have hnone : ∀ {o px}, ink o px = 0 → spriteInk s line o px = 0 := fun h0 =>
    BitVec.eq_of_toNat_eq ((hink _ _).trans h0)
  refine ⟨exitMode_pb s, rfl, ?_, fun k hk => PixelBuffer.row_setRow_other _ hk _, ?_, ?_⟩
  · rw [show row = _ from renderLine_row hwf line, List.length_map, renderRow_length]; rfl
  · intro px hpx hclear
    have hx := renderRow_under s line px hpx (hclear.imp_right fun h o ho => hnone (h o ho))
    refine (renderLine_row_getElem? hwf hx).trans ?_
    rw [← pixelRgb_list, hunder]
    rfl
  · intro px hpx hon before after o hcache ho hafter
    have hne : spriteInk s line o px ≠ 0 := fun h0 => ho (by rw [← hink, h0]; rfl)
    have hx := renderRow_sprite s line px hpx hon hcache hne fun q hq => hnone (hafter q hq)
    refine (renderLine_row_getElem? hwf hx).trans ?_
    rw [← pixelRgb_list]
    simp only [hink, layerPalette_sprite]
    rfl

end Sys2Proof.Machine
end

section
/-! PROOFS. The registers that are recomputed at a read (O52), and the state after reset (O59, O60). -/

namespace Sys2Proof.Machine

/-- STAT as it reads, field by field (rule R33). -/
theorem Ppu.stat_fields (p : Ppu) :
    p.stat.getLsbD 7 = false ∧ p.stat.extractLsb' 3 4 = p.statSel ∧ p.stat.getLsbD 2 = p.lycEq ∧
      p.stat.toNat % 4 = (match p.mode with | .hblank => 0 | .vblank => 1 | .oamSearch => 2 | .lineRender => 3) := by
  unfold Ppu.stat
  generalize p.statSel = sel
  revert sel
  cases p.lycEq <;> cases p.mode <;> decide

/-- The joypad register as it reads, field by field: a bit is low when a selected group holds it pressed (rule R270). -/
theorem joypadRead_fields (sel : BitVec 2) (k : Buttons) :
    let b := joypadRead sel k
    b.extractLsb' 6 2 = 3 ∧ b.extractLsb' 4 2 = sel ∧
      b.getLsbD 0 = (!(!sel.getLsbD 0 && k.right) && !(!sel.getLsbD 1 && k.a)) ∧
      b.getLsbD 1 = (!(!sel.getLsbD 0 && k.left) && !(!sel.getLsbD 1 && k.b)) ∧
      b.getLsbD 2 = (!(!sel.getLsbD 0 && k.up) && !(!sel.getLsbD 1 && k.select)) ∧
      b.getLsbD 3 = (!(!sel.getLsbD 0 && k.down) && !(!sel.getLsbD 1 && k.start)) := by
  obtain ⟨right, left, up, down, a, b, select, start⟩ := k
  revert sel right left up down a b select start
  decide

/-- Settles O52: each address has its unit, whose read and write hooks do nothing more. -/
theorem recomputedRegisters : Obligations.RecomputedRegisters := fun s _ =>
  ⟨⟨s.ppu.stat, rfl, s.ppu.stat_fields⟩, rfl, rfl, rfl,
    ⟨joypadRead s.joypSel s.buttons, rfl, joypadRead_fields s.joypSel s.buttons⟩, rfl⟩

/-- A well-formed configuration has its initial memory and pixel buffer in canonical form. -/
theorem Config.init_wf_of_wellFormed {c : Config} (h : c.wellFormed = true) :
    c.init.ram.wf = true ∧ c.init.pb.wf = true := by
  simp only [Config.wellFormed, Config.initOk, Bool.and_eq_true] at h
  tauto

/-- The PPU is legal at reset (rule R40). -/
theorem Ppu.reset_legal : Ppu.reset.Legal := ⟨by decide, (by decide : 0 < Config.visibleLines), by decide⟩

theorem State.resetWith_inv {cfg : Config} (h : cfg.wellFormed = true) (agent : List AgentEvent) :
    (State.resetWith cfg agent).Inv := by
  obtain ⟨hram, hpb⟩ := Config.init_wf_of_wellFormed h
  exact ⟨h, hram, hpb, Ppu.reset_legal, (by decide : (1 : BitVec 5) ≠ 0)⟩

/-- Settles O59: a well-formed configuration brings canonical memory, the reset itself the rest. -/
theorem resetInv : Obligations.ResetInv :=
  ⟨State.resetWith_inv (by decide) [], fun _ agent h => State.resetWith_inv h agent⟩

/-- F at reset is the high nibble of the initial F (rules R22, R40). -/
theorem State.resetWith_f (cfg : Config) (agent : List AgentEvent) : (State.resetWith cfg agent).f = cfg.init.f &&& 0xF0 :=
  Flags.toByte_ofByte cfg.init.f

/-- Settles O60: F by its two nibbles, the general registers one by one, and every other field as `State.resetWith` has it. -/
theorem resetState : Obligations.ResetState := by
  intro cfg agent s
  have hf : s.f = cfg.init.f &&& 0xF0 := State.resetWith_f cfg agent
  have hlow : s.f &&& 0x0F = 0 := by rw [hf, BitVec.and_assoc]; exact BitVec.and_zero
  have hhigh : s.f &&& 0xF0 = cfg.init.f &&& 0xF0 := by rw [hf, BitVec.and_assoc]; rfl
  refine ⟨rfl, rfl, rfl, hlow, ?_⟩
  -- IF, IE, the PPU, the boot mapping and the bank, SP
  iterate 22 refine ⟨rfl, ?_⟩
  exact ⟨fun r => by cases r <;> rfl, hhigh, rfl, rfl⟩

end Sys2Proof.Machine
end

section
/-! PROOFS. One unit at a time: who owns a range, and what a read and a write of a gap, video RAM, object memory and ROM
answer (O46, O49, O50). -/

namespace Sys2Proof.Machine

/-! ## Owners of the ranges below 0xFEA0 -/

theorem State.owner_bootRom {s : State} {a : Word} (ha : a.toNat < 0x0100) (hm : s.bootMapped = true) :
    s.owner a = .bootRom := by
  rw [State.owner, Machine.owner, if_pos ha, if_pos hm]

theorem State.owner_cartRom {s : State} {a : Word} (ha : a.toNat < 0x8000) (hm : s.bootMapped = false ∨ 0x0100 ≤ a.toNat) :
    s.owner a = .cartRom := by
  rw [State.owner, Machine.owner]
  by_cases hlow : a.toNat < 0x0100
  · rw [if_pos hlow, hm.resolve_right (by omega)]; rfl
  · rw [if_neg hlow, if_pos ha]

theorem State.owner_vram {s : State} {a : Word} (hlo : 0x8000 ≤ a.toNat) (hhi : a.toNat < 0xA000) : s.owner a = .vram := by
  rw [State.owner, Machine.owner, if_neg (by omega), if_neg (by omega), if_pos hhi]

theorem State.owner_wram {s : State} {a : Word} (hlo : 0xC000 ≤ a.toNat) (hhi : a.toNat < 0xE000) : s.owner a = .wram := by
  rw [State.owner, Machine.owner, if_neg (by omega), if_neg (by omega), if_neg (by omega), if_neg (by omega), if_pos hhi]

theorem State.owner_echo {s : State} {a : Word} (hlo : 0xE000 ≤ a.toNat) (hhi : a.toNat < 0xFE00) : s.owner a = .echo := by
  rw [State.owner, Machine.owner, if_neg (by omega), if_neg (by omega), if_neg (by omega), if_neg (by omega),
    if_neg (by omega), if_pos hhi]

theorem State.owner_oam {s : State} {a : Word} (hlo : 0xFE00 ≤ a.toNat) (hhi : a.toNat < 0xFEA0) : s.owner a = .oam := by
  rw [State.owner, Machine.owner, if_neg (by omega), if_neg (by omega), if_neg (by omega), if_neg (by omega),
    if_neg (by omega), if_neg (by omega), if_pos hhi]

/-! ## Gaps and the DMA register -/

theorem busWrite_of_gap {s : State} {a : Word} (h : isGap a = true) (v : Byte) : busWrite s a v = .error (.gap a) := by
  simp only [busWrite, (State.owner_eq_gap_iff s a).2 h]

/-- A write to the DMA register is the copy, then the store of the byte (rule R62). -/
theorem busWrite_dma (s : State) (v : Byte) :
    busWrite s 0xFF46 v = thenSet (dmaCopy v s) fun t => { t with ppu := { t.ppu with dma := v } } := by
  simp only [busWrite, show s.owner 0xFF46 = .dma from rfl, State.onWrite]
  cases dmaCopy v s <;> rfl

/-! ## Contention (rule R58) -/

theorem State.vramBlocked_iff (s : State) : s.vramBlocked = true ↔ s.ppu.mode = .lineRender := by
  unfold State.vramBlocked
  cases s.ppu.mode <;> decide

theorem State.oamBlocked_iff (s : State) :
    s.oamBlocked = true ↔ s.ppu.mode = .oamSearch ∨ (s.ppu.mode = .lineRender ∧ s.cfg.contention = .fallthrough) := by
  unfold State.oamBlocked
  cases s.ppu.mode <;> cases s.cfg.contention <;> decide

theorem busRead_vram {s : State} {a : Word} (h : s.owner a = .vram) :
    busRead s a = .ok (if s.vramBlocked then s.cfg.fill else s.ram.read a.toNat) := by
  simp only [busRead, h]; rfl

theorem busRead_oam {s : State} {a : Word} (h : s.owner a = .oam) :
    busRead s a = .ok (if s.oamBlocked then s.cfg.fill else s.ram.read a.toNat) := by
  simp only [busRead, h]; rfl

theorem busWrite_vram {s : State} {a : Word} (h : s.owner a = .vram) (v : Byte) :
    busWrite s a v = .ok (if s.vramBlocked then s else { s with ram := s.ram.write a.toNat v }) := by
  simp only [busWrite, h, State.onWrite]
  cases s.vramBlocked <;> rfl

theorem busWrite_oam {s : State} {a : Word} (h : s.owner a = .oam) (v : Byte) :
    busWrite s a v = .ok (if s.oamBlocked then s else { s with ram := s.ram.write a.toNat v }) := by
  simp only [busWrite, h, State.onWrite]
  cases s.oamBlocked <;> rfl

/-- Settles O46: the unit's read and write, and when its range is blocked. -/
theorem contention : Obligations.Contention := by
  refine ⟨rfl, fun s a v => ⟨fun hlo hhi => ?_, fun hlo hhi => ?_⟩⟩
  · rw [busRead_vram (State.owner_vram hlo hhi), busWrite_vram (State.owner_vram hlo hhi), Ne, ← s.vramBlocked_iff]
    exact ⟨fun h => ⟨congrArg _ (if_pos h), congrArg _ (if_pos h)⟩, fun h => ⟨congrArg _ (if_neg h), congrArg _ (if_neg h)⟩⟩
  · rw [busRead_oam (State.owner_oam hlo hhi), busWrite_oam (State.owner_oam hlo hhi), ← s.oamBlocked_iff]
    exact ⟨fun h => ⟨congrArg _ (if_pos h), congrArg _ (if_pos h)⟩, fun h => ⟨congrArg _ (if_neg h), congrArg _ (if_neg h)⟩⟩

/-! ## The cartridge (rules R56, R57) -/

theorem busRead_cartRom {s : State} {a : Word} (h : s.owner a = .cartRom) :
    busRead s a = .ok (s.cfg.cartRom.read (s.cartIndex a.toNat)) := by
  simp only [busRead, h]; rfl

theorem busWrite_cartRom_flat {s : State} {a : Word} (h : s.owner a = .cartRom) (hc : s.cfg.cartType = .flat) (v : Byte) :
    busWrite s a v = .ok s := by
  simp only [busWrite, h, State.onWrite, hc]; rfl

theorem busWrite_cartRom_banked {s : State} {a : Word} (h : s.owner a = .cartRom) (hc : s.cfg.cartType = .banked)
    (v : Byte) :
    busWrite s a v = .ok (if 0x2000 ≤ a.toNat ∧ a.toNat < 0x4000 then { s with romBank := bankOf v } else s) := by
  simp only [busWrite, h, State.onWrite, hc]
  by_cases hsel : 0x2000 ≤ a.toNat ∧ a.toNat < 0x4000
  · simp only [if_pos hsel]; rfl
  · simp only [if_neg hsel]; rfl

/-- The selected bank as a number: the low 5 bits, 0 taken as 1 (rule R57). -/
theorem bankOf_eq_max : ∀ v : Byte, bankOf v = BitVec.ofNat 5 (max 1 (v.toNat % 32)) := by decide

/-- Settles O49: the unit's read and write for each type. -/
theorem cartridgeRom : Obligations.CartridgeRom := by
  intro s a v ha hm
  have ho : s.owner a = .cartRom := State.owner_cartRom ha hm
  rw [busRead_cartRom ho, State.cartIndex]
  refine ⟨fun hc => ⟨by rw [hc], busWrite_cartRom_flat ho hc v⟩, fun hc => ⟨by rw [hc], ?_⟩⟩
  rw [busWrite_cartRom_banked ho hc, bankOf_eq_max]

/-! ## The boot ROM (rule R55) -/

theorem busRead_bootRom {s : State} {a : Word} (h : s.owner a = .bootRom) :
    busRead s a = .ok (s.cfg.bootRom.read a.toNat) := by
  simp only [busRead, h]; rfl

theorem busWrite_bootRom {s : State} {a : Word} (h : s.owner a = .bootRom) (v : Byte) : busWrite s a v = .ok s := by
  simp only [busWrite, h]; rfl

/-- No step maps the boot ROM again: the CPU step keeps it away, and what follows does not touch the mapping. -/
theorem step_keeps_unmapped {s t : State} (h : step s = .next t) (hs : s.bootMapped = false) : t.bootMapped = false := by
  obtain ⟨u, hu, rfl⟩ := step_next_inv h
  rw [AfterStep.afterCpuStep u]
  exact (cpuStep_kept hu).unmapped hs

theorem Reaches.keeps_unmapped {s t : State} (h : Reaches s t) (hs : s.bootMapped = false) : t.bootMapped = false := by
  induction h with
  | refl => exact hs
  | tail _ hstep ih => exact step_keeps_unmapped hstep ih

/-- Settles O50: the unit's read and write, the hook at 0xFF50, and an induction over the steps. -/
theorem bootRomLeavesOnce : Obligations.BootRomLeavesOnce :=
  ⟨fun _ _ v ha hm => ⟨busRead_bootRom (State.owner_bootRom ha hm), busWrite_bootRom (State.owner_bootRom ha hm) v⟩,
    fun _ _ => rfl, fun _ _ => step_keeps_unmapped, fun _ _ => Reaches.keeps_unmapped⟩

end Sys2Proof.Machine
end

section
/-! PROOFS. Address decode: the floor lookup of a map in which no region starts inside another (O45). -/

namespace Sys2Proof.Machine

/-- The address lies in the region. -/
def Region.Contains (r : Region) (a : Nat) : Prop := r.base ≤ a ∧ a < r.base + r.size

/-- The floor region is a row with the greatest base that is at most the address; there is none when every base is above
it (rule R51). -/
theorem floorLookup_spec (a : Nat) (l : List Region) :
    match floorLookup a l with
    | some r => r ∈ l ∧ r.base ≤ a ∧ ∀ q ∈ l, q.base ≤ a → q.base ≤ r.base
    | none => ∀ q ∈ l, a < q.base := by
  induction l with
  | nil => simp [floorLookup]
  | cons p l ih =>
    simp only [floorLookup]
    cases hrest : floorLookup a l with
    | none =>
      simp only [hrest] at ih ⊢
      by_cases hp : p.base ≤ a <;> grind
    | some q =>
      simp only [hrest] at ih ⊢
      by_cases hp : p.base ≤ a ∧ q.base < p.base <;> grind

/-- No region of the map starts inside another. -/
def Separate (l : List Region) : Prop := ∀ r ∈ l, ∀ q ∈ l, r.Contains q.base → q = r

/-- An address inside a region decodes to its unit. -/
theorem resolve_of_contains {l : List Region} (hl : Separate l) {r : Region} (hr : r ∈ l) {a : Nat} (ha : r.Contains a) :
    resolve l a = r.unit := by
  obtain ⟨hbase, hend⟩ := ha
  have hfloor := floorLookup_spec a l
  cases hq : floorLookup a l with
  | none =>
    simp only [hq] at hfloor
    exact absurd hbase (Nat.not_le.2 (hfloor r hr))
  | some q =>
    simp only [hq] at hfloor
    obtain ⟨hmem, hle, hgreatest⟩ := hfloor
    obtain rfl : q = r := hl r hr q hmem ⟨hgreatest r hr hbase, by omega⟩
    simp only [resolve, hq]
    exact if_pos (by omega)

/-- An address inside no region decodes to a gap (rule R54). -/
theorem resolve_of_not_contains {l : List Region} {a : Nat} (h : ∀ r ∈ l, ¬r.Contains a) : resolve l a = .gap := by
  have hfloor := floorLookup_spec a l
  cases hq : floorLookup a l with
  | none => simp only [resolve, hq]
  | some q =>
    simp only [hq] at hfloor
    obtain ⟨hmem, hle, -⟩ := hfloor
    have hout : ¬q.Contains a := h q hmem
    simp only [resolve, hq]
    exact if_neg fun hin => hout ⟨hle, by omega⟩

theorem addressMap_separate (m : Bool) : Separate (addressMap m) := by
  unfold Separate Region.Contains
  cases m <;> decide

/-- The rows of the table cover the range of every unit (rules R53, R31). -/
theorem exists_region_of_range {o : Owner} (ho : o ≠ .gap) {m : Bool} {a : Nat} (h : o.range m a) :
    ∃ r ∈ addressMap m, r.Contains a ∧ r.unit = o := by
  simp only [addressMap, List.cons_append, List.nil_append, List.exists_mem_cons_iff, Region.Contains]
  cases o
  case gap => exact absurd rfl ho
  case bootRom => simp only [Owner.range] at h; simp [h.2]; omega
  case cartRom => simp only [Owner.range] at h; cases m <;> simp at h ⊢ <;> omega
  all_goals simp only [Owner.range] at h; simp; omega

/-- No row of the table reaches into a gap (rule R54). -/
theorem not_contains_of_isGap {a : Word} (h : isGap a = true) {m : Bool} : ∀ r ∈ addressMap m, ¬r.Contains a.toNat := by
  simp only [isGap, Bool.or_eq_true, decide_eq_true_eq] at h
  simp only [addressMap, List.cons_append, List.nil_append, List.forall_mem_cons, Region.Contains]
  simp only [List.not_mem_nil, false_imp_iff, implies_true, and_true]
  omega

/-- Settles O45: the owner's row, or no row, is found by membership alone, so the order of the rows does not matter. -/
theorem addressDecode : Obligations.AddressDecode := by
  intro m l hperm a
  by_cases hgap : Machine.owner m a.toNat = .gap
  · rw [hgap]
    exact resolve_of_not_contains fun r hr =>
      not_contains_of_isGap ((owner_eq_gap_iff m a).1 hgap) r (hperm.mem_iff.1 hr)
  · obtain ⟨r, hr, hin, hunit⟩ := exists_region_of_range hgap (owner_range m a)
    rw [← hunit]
    have hsep : Separate l := fun r hr q hq => addressMap_separate m r (hperm.mem_iff.1 hr) q (hperm.mem_iff.1 hq)
    exact resolve_of_contains hsep (hperm.mem_iff.2 hr) hin

end Sys2Proof.Machine
end

section
/-! PROOFS. What an instruction does with memory, by the addresses it reads and stores to: it stops at a gap it accesses
first (O15), and changes the CPU only when it stores nothing (O16). -/

namespace Sys2Proof.Machine

/-- Only the CPU and the count may differ. -/
def CpuOnly (s t : State) : Prop := t = { s with cpu := t.cpu, cycles := t.cycles }

theorem CpuOnly.withCpu {s t : State} (h : CpuOnly s t) (c : Cpu) (n : Nat) :
    CpuOnly s { t with cpu := c, cycles := n } := by
  unfold CpuOnly at h ⊢
  rw [h]

theorem CpuOnly.setCycles {s t : State} (h : CpuOnly s t) (n : Nat) : CpuOnly s (t.setCycles n) := h.withCpu t.cpu n

theorem CpuOnly.stepHl {s t : State} (h : CpuOnly s t) (d : Word) : CpuOnly s (stepHl d t) := h.withCpu _ t.cycles

theorem CpuOnly.bitTest (b : Oct) (v : Byte) (s : State) : CpuOnly s (bitTest b v s) := rfl

theorem CpuOnly.aluA (op : AluOp) (v : Byte) (s : State) : CpuOnly s (aluA op v s) := by cases op <;> rfl

theorem CpuOnly.setQq (s : State) (w : Word) (q : QQ) (v : Word) : CpuOnly s ((s.setSp w).setQq q v) := by cases q <;> rfl

/-- Body `r`, run in `s`, reads at `reads`, then stores at `stores`: it stops at the first of these addresses when that is a
gap, and changes the CPU only when it stores nothing. -/
structure Accesses (s : State) (reads stores : List Word) (r : Except Fault State) : Prop where
  faults : ∀ a, (reads ++ stores).head? = some a → isGap a = true → r = .error (.gap a)
  cpuOnly : stores = [] → ∀ t, r = .ok t → CpuOnly s t

/-! ## The shared bodies -/

/-- A body that accesses no memory. -/
theorem Accesses.ok {s t : State} (h : CpuOnly s t) : Accesses s [] [] (.ok t) :=
  ⟨(fun _ ha => nomatch ha), fun _ u hu => by cases hu; exact h⟩

/-- A body whose first access is a store. -/
theorem Accesses.storing {s : State} {a : Word} {rest : List Word} {r : Except Fault State}
    (h : isGap a = true → r = .error (.gap a)) : Accesses s [] (a :: rest) r :=
  ⟨fun b hb => by cases hb; exact h, fun hnone => nomatch hnone⟩

/-- A body that reads only. -/
theorem Accesses.reading {s : State} {a : Word} {rest : List Word} {r : Except Fault State}
    (h : isGap a = true → r = .error (.gap a)) (hr : ∀ t, r = .ok t → CpuOnly s t) : Accesses s (a :: rest) [] r :=
  ⟨fun b hb => by cases hb; exact h, fun _ => hr⟩

/-- A body and then a change of registers. -/
theorem Accesses.thenSet {s : State} {reads stores : List Word} {r : Except Fault State} (h : Accesses s reads stores r)
    {f : State → State} (hf : ∀ t, CpuOnly s t → CpuOnly s (f t)) : Accesses s reads stores (thenSet r f) := by
  refine ⟨fun a ha hg => by rw [h.faults a ha hg]; rfl, fun hnone t ht => ?_⟩
  obtain ⟨u, hu, rfl⟩ := thenSet_inv ht
  exact hf u (h.cpuOnly hnone u hu)

/-- A body that runs, and accesses memory, when a condition holds. -/
theorem Accesses.ite {s : State} {reads stores : List Word} {r : Except Fault State} (c : Bool)
    (h : Accesses s reads stores r) :
    Accesses s (if c then reads else []) (if c then stores else []) (if c then r else .ok s) := by
  cases c with
  | true => exact h
  | false => exact .ok rfl

theorem accesses_loadA (a : Word) (s : State) : Accesses s [a] [] (loadA a s) := by
  refine .reading (fun hg => by simp only [loadA, busRead_of_gap hg]) fun t ht => ?_
  obtain ⟨v, -, rfl⟩ := loadA_inv ht
  rfl

theorem accesses_storeA (a : Word) (s : State) : Accesses s [] [a] (storeA a s) := .storing fun hg => busWrite_of_gap hg _

theorem accesses_busWrite16 (a w : Word) (s : State) : Accesses s [] [a, a + 1] (busWrite16 s a w) :=
  .storing fun hg => by simp only [busWrite16, busWrite_of_gap hg]

theorem accesses_push16 (w : Word) (s : State) : Accesses s [] [s.cpu.sp - 1, s.cpu.sp - 2] (push16 w s) :=
  .storing fun hg => by simp only [push16, busWrite_of_gap hg]

theorem accesses_callTo (w : Word) (s : State) : Accesses s [] [s.cpu.sp - 1, s.cpu.sp - 2] (callTo w s) :=
  .storing fun hg => by simp only [callTo, push16, busWrite_of_gap hg]

theorem accesses_popTo (q : QQ) (s : State) : Accesses s [s.cpu.sp, s.cpu.sp + 1] [] (popTo q s) := by
  refine .reading (fun hg => by simp only [popTo, pop16, busRead_of_gap hg]) fun t ht => ?_
  obtain ⟨l, b, -, -, rfl⟩ := popTo_inv ht
  exact .setQq s _ q _

theorem accesses_returnTo (s : State) : Accesses s [s.cpu.sp, s.cpu.sp + 1] [] (returnTo s) := by
  refine .reading (fun hg => by simp only [returnTo, pop16, busRead_of_gap hg]) fun t ht => ?_
  obtain ⟨l, b, -, -, rfl⟩ := returnTo_inv ht
  rfl

theorem accesses_returnFromInterrupt (s : State) :
    Accesses s [s.cpu.sp, s.cpu.sp + 1] [] (returnFromInterrupt s) := by
  refine .reading (fun hg => by simp only [returnFromInterrupt, returnTo, pop16, busRead_of_gap hg]) fun t ht => ?_
  obtain ⟨u, hu, rfl⟩ := returnFromInterrupt_inv ht
  obtain ⟨l, b, -, -, rfl⟩ := returnTo_inv hu
  rfl

theorem accesses_writeR8 (s : State) (r : R8) (v : Byte) : Accesses s [] (s.r8Addrs r) (writeR8 s r v) := by
  cases r with
  | reg r => cases r <;> exact .ok rfl
  | memHl => exact .storing fun hg => busWrite_of_gap hg v

theorem accesses_move (d q : R8) (s : State) : Accesses s (s.r8Addrs q) (s.r8Addrs d) (move d q s) := by
  cases q with
  | reg q => exact accesses_writeR8 s d (s.reg q)
  | memHl =>
    refine ⟨fun a ha hg => ?_, fun hnone t ht => ?_⟩
    · cases ha; simp only [move, readR8, busRead_of_gap hg]
    · obtain ⟨v, -, hw⟩ := move_inv ht
      exact (accesses_writeR8 s d v).cpuOnly hnone t hw

theorem accesses_withOperand {op : Byte → State → State} {s : State} (hop : ∀ v, CpuOnly s (op v s)) (r : R8) :
    Accesses s (s.r8Addrs r) [] (withOperand op r s) := by
  cases r with
  | reg r => exact .ok (hop _)
  | memHl =>
    refine .reading (fun hg => by simp only [withOperand, readR8, busRead_of_gap hg]) fun t ht => ?_
    obtain ⟨v, -, rfl⟩ := withOperand_inv ht
    exact hop v

theorem accesses_modifyOperand (op : Byte → Flags → Byte × Flags) (r : R8) (s : State) :
    Accesses s (s.r8Addrs r) (s.r8Addrs r) (modifyOperand op r s) := by
  cases r with
  | reg r => cases r <;> exact .ok rfl
  | memHl =>
    refine ⟨fun a ha hg => ?_, fun hnone => nomatch hnone⟩
    cases ha; simp only [modifyOperand, readR8, busRead_of_gap hg]

/-! ## Every instruction -/

/-- The meaning of `i` in `s` is a body, finished with the instruction's count, that accesses memory where
`dataReads` and `storeAddrs` say. -/
def HasAccesses (i : Instr) (s : State) : Prop :=
  ∃ r, exec i s = finish (costOf s.cfg i s.cpu.flags) r ∧ Accesses s (dataReads i s) (storeAddrs i s) r

theorem HasAccesses.intro {i : Instr} {s : State} {r : Except Fault State} {reads stores : List Word}
    (hexec : exec i s = finish (costOf s.cfg i s.cpu.flags) r) (hreads : dataReads i s = reads)
    (hstores : storeAddrs i s = stores) (h : Accesses s reads stores r) : HasAccesses i s :=
  ⟨r, hexec, hreads ▸ hstores ▸ h⟩

/-- An instruction that accesses no memory. -/
theorem HasAccesses.of_cpuOnly {i : Instr} {s t : State} (hexec : exec i s = .next (t.setCycles (costOf s.cfg i s.cpu.flags)))
    (hreads : dataReads i s = []) (hstores : storeAddrs i s = []) (h : CpuOnly s t) : HasAccesses i s :=
  .intro (r := .ok t) hexec hreads hstores (.ok h)

/-- An instruction that reads an operand and writes it back. -/
theorem HasAccesses.of_modifyOperand {i : Instr} {s : State} {op : Byte → Flags → Byte × Flags} {r : R8}
    (hexec : exec i s = finish (costOf s.cfg i s.cpu.flags) (modifyOperand op r s))
    (haccess : dataReads i s = s.r8Addrs r ∧ storeAddrs i s = s.r8Addrs r) : HasAccesses i s :=
  .intro hexec haccess.1 haccess.2 (accesses_modifyOperand op r s)

/-- Every instruction but STOP, by its family's equation or its own arm. -/
theorem exec_hasAccesses (i : Instr) : ∀ s : State, (∀ pad, i ≠ .stop pad) → HasAccesses i s := by
  revert i
  apply Instr.families (P := fun i => ∀ s : State, (∀ pad, i ≠ .stop pad) → HasAccesses i s)
  case ldR8R8 =>
    exact fun d q h s _ => .intro (exec_ldR8R8 s h) (dataReads_ldR8R8 s h) (storeAddrs_ldR8R8 s h) (accesses_move d q s)
  case ldR8D8 =>
    exact fun d v s _ => .intro (exec_ldR8D8 s d v) (by rcases d with (_ | _ | _ | _ | _ | _ | _) | _ <;> rfl)
      (storeAddrs_ldR8D8 s d v) (accesses_writeR8 s d v)
  case incR8 => exact fun r s _ => .of_modifyOperand (exec_incR8 s r) (accesses_incR8 s r)
  case decR8 => exact fun r s _ => .of_modifyOperand (exec_decR8 s r) (accesses_decR8 s r)
  case rotR8 => exact fun op r s _ => .of_modifyOperand (exec_rotR8 s op r) (accesses_rotR8 s op r)
  case resR8 => exact fun b r s _ => .of_modifyOperand (exec_resR8 s b r) (accesses_resR8 s b r)
  case setR8 => exact fun b r s _ => .of_modifyOperand (exec_setR8 s b r) (accesses_setR8 s b r)
  case aluR8 =>
    exact fun op r s _ => .intro (exec_aluR8 s op r) (dataReads_aluR8 s op r)
      (by rcases r with (_ | _ | _ | _ | _ | _ | _) | _ <;> cases op <;> rfl)
      (accesses_withOperand (fun v => .aluA op v s) r)
  case bitR8 =>
    exact fun b r s _ => .intro (exec_bitR8 s b r) (dataReads_bitR8 s b r)
      (by rcases r with (_ | _ | _ | _ | _ | _ | _) | _ <;> cases b <;> rfl) (accesses_withOperand (fun v => .bitTest b v s) r)
  case aluD8 =>
    exact fun op v s _ => .of_cpuOnly (exec_aluD8 s op v) (by cases op <;> rfl) (by cases op <;> rfl) (.aluA op v s)
  case ldRrD16 => intro r w s _; cases r <;> exact .of_cpuOnly rfl rfl rfl rfl
  case addHlRr => intro r s _; cases r <;> exact .of_cpuOnly rfl rfl rfl rfl
  case incRr => intro r s _; cases r <;> exact .of_cpuOnly rfl rfl rfl rfl
  case decRr => intro r s _; cases r <;> exact .of_cpuOnly rfl rfl rfl rfl
  case pushQq =>
    exact fun q s _ => .intro (exec_pushQq s q) (by cases q <;> rfl) (storeAddrs_pushQq s q) (accesses_push16 _ s)
  case popQq =>
    exact fun q s _ => .intro (exec_popQq s q) (dataReads_popQq s q) (by cases q <;> rfl) (accesses_popTo q s)
  case rst =>
    exact fun t s _ => .intro (exec_rst s t) (by cases t <;> rfl) (storeAddrs_rst s t) (accesses_callTo _ s)
  case jrCc =>
    exact fun cc e s _ => .intro (exec_jrCc s cc e) (by cases cc <;> rfl) (by cases cc <;> rfl) (by split <;> exact .ok rfl)
  case jpCc =>
    exact fun cc w s _ => .intro (exec_jpCc s cc w) (by cases cc <;> rfl) (by cases cc <;> rfl) (by split <;> exact .ok rfl)
  case callCc =>
    exact fun cc w s _ => .intro (exec_callCc s cc w) (by cases cc <;> exact (ite_self _).symm) (storeAddrs_callCc s cc w)
      (.ite (condHolds cc s.cpu.flags) (accesses_callTo w s))
  case retCc =>
    exact fun cc s _ => .intro (exec_retCc s cc) (dataReads_retCc s cc) (by cases cc <;> exact (ite_self _).symm)
      (.ite (condHolds cc s.cpu.flags) (accesses_returnTo s))
  case stop => exact fun pad s h => absurd rfl (h pad)
  case unrecognized => intro i hi s _; cases i <;> cases hi <;> exact .of_cpuOnly rfl rfl rfl rfl
  case ldMemA16Sp => exact fun a s _ => ⟨_, rfl, accesses_busWrite16 a s.cpu.sp s⟩
  case ldMemBcA => exact fun s _ => ⟨_, rfl, accesses_storeA s.bc s⟩
  case ldMemDeA => exact fun s _ => ⟨_, rfl, accesses_storeA s.de s⟩
  case ldMemA16A => exact fun a s _ => ⟨_, rfl, accesses_storeA a s⟩
  case ldhMemA8A => exact fun a s _ => ⟨_, rfl, accesses_storeA (highPage a) s⟩
  case ldMemCA => exact fun s _ => ⟨_, rfl, accesses_storeA (highPage s.cpu.c) s⟩
  case ldMemHlIncA | ldMemHlDecA =>
    exact fun s _ => ⟨_, rfl, (accesses_storeA s.hl s).thenSet fun _ h => h.stepHl _⟩
  case ldAMemBc => exact fun s _ => ⟨_, rfl, accesses_loadA s.bc s⟩
  case ldAMemDe => exact fun s _ => ⟨_, rfl, accesses_loadA s.de s⟩
  case ldAMemA16 => exact fun a s _ => ⟨_, rfl, accesses_loadA a s⟩
  case ldhAMemA8 => exact fun a s _ => ⟨_, rfl, accesses_loadA (highPage a) s⟩
  case ldAMemC => exact fun s _ => ⟨_, rfl, accesses_loadA (highPage s.cpu.c) s⟩
  case ldAMemHlInc | ldAMemHlDec =>
    exact fun s _ => ⟨_, rfl, (accesses_loadA s.hl s).thenSet fun _ h => h.stepHl _⟩
  case ret => exact fun s _ => ⟨_, rfl, accesses_returnTo s⟩
  case reti => exact fun s _ => ⟨_, rfl, accesses_returnFromInterrupt s⟩
  case callA16 => exact fun a s _ => ⟨_, rfl, accesses_callTo a s⟩
  all_goals intros; exact .of_cpuOnly rfl rfl rfl rfl

/-- Settles O16: STOP answers no next state; every other instruction has a body that changes the CPU only. -/
theorem nonStoringFrame : Obligations.NonStoringFrame := by
  intro i s t hnone h
  by_cases hstop : ∃ pad, i = .stop pad
  · obtain ⟨pad, rfl⟩ := hstop
    cases h
  · obtain ⟨r, hexec, hacc⟩ := exec_hasAccesses i s (not_exists.1 hstop)
    rw [hexec] at h
    obtain ⟨u, hu, rfl⟩ := finish_next_iff.1 h
    exact (hacc.cpuOnly hnone u hu).setCycles _

/-! ## Gaps (rule R54) -/

/-- An instruction whose first data access is at a gap stops there. -/
theorem exec_fault_of_first_access {i : Instr} {s : State} {a : Word} (ha : (dataReads i s ++ storeAddrs i s).head? = some a)
    (hg : isGap a = true) : exec i s = .fault (.gap a) := by
  by_cases hstop : ∃ pad, i = .stop pad
  · obtain ⟨pad, rfl⟩ := hstop
    cases ha
  · obtain ⟨r, hexec, hacc⟩ := exec_hasAccesses i s (not_exists.1 hstop)
    rw [hexec, hacc.faults a ha hg, finish_error]

/-- A step whose fetch starts at a gap stops there. -/
theorem step_fault_of_pc_gap {s : State} (h : s.staysHalted = false) (hg : isGap s.cpu.pc = true) :
    step s = .fault (.gap s.cpu.pc) := by
  have hread : busRead (s.setHalted false) (s.setHalted false).cpu.pc = .error (.gap s.cpu.pc) := busRead_of_gap hg
  have hfetch : fetchDecode (s.setHalted false) = .error (.gap s.cpu.pc) := by
    simp only [fetchDecode, fetchBytes, hread]
  have hcpu : cpuStep s = .fault (.gap s.cpu.pc) := by
    simp only [cpuStep, h, hfetch, Bool.false_eq_true, if_false]
  exact ((step_stops_iff s).1 _).2 hcpu

/-- Settles O15: the bus at a gap, the copy of page 0xFF, the fetch, and an instruction's first access. -/
theorem gapAccessFaults : Obligations.GapAccessFaults :=
  ⟨fun _ _ v hg => ⟨busRead_of_gap hg, busWrite_of_gap hg v⟩,
    fun s => by rw [busWrite_dma, dmaCopy_page_ff]; rfl,
    fun _ => step_fault_of_pc_gap,
    fun _ _ _ => exec_fault_of_first_access⟩

end Sys2Proof.Machine
end

section
/-! PROOFS. A write of the bus: what its hook and its store change, what they leave alone (O48), and what a read of the same
address answers after it (O47). -/

namespace Sys2Proof.Machine

/-! ## Units in RAM -/

/-- The units whose bytes stand in `State.ram` (rule R36). -/
def Owner.inRam : Owner → Bool
  | .vram | .cram | .wram | .oam | .serial | .sound | .hram | .timer | .echo => true
  | _ => false

/-- Where in `State.ram` such a unit keeps the byte of an address (rule R59). -/
def State.ramIndex (s : State) (o : Owner) (n : Nat) : Nat := if o = .echo then s.echoAddr n else n

theorem State.stored_of_inRam {o : Owner} (h : o.inRam = true) (s : State) (n : Nat) :
    s.stored o n = s.ram.read (s.ramIndex o n) := by
  cases o <;> first | rfl | cases h

theorem State.store_of_inRam {o : Owner} (h : o.inRam = true) (s : State) (n : Nat) (v : Byte) :
    s.store o n v = { s with ram := s.ram.write (s.ramIndex o n) v } := by
  cases o <;> first | rfl | cases h

/-- A read does not see a change of RAM off the byte it reads. -/
theorem busRead_withRam {s : State} {m : Memory} {b : Word}
    (h : (s.owner b).inRam = true → m.read (s.ramIndex (s.owner b) b.toNat) = s.ram.read (s.ramIndex (s.owner b) b.toNat)) :
    busRead { s with ram := m } b = busRead s b := by
  refine busRead_congr (s := s) rfl ?_ rfl rfl fun _ => rfl
  show s.stored (s.owner b) _ = State.stored { s with ram := m } (s.owner b) _
  by_cases hin : (s.owner b).inRam = true
  · rw [State.stored_of_inRam hin, State.stored_of_inRam hin]
    exact (h hin).symm
  · cases ho : s.owner b <;> first | rfl | exact absurd (by rw [ho]; rfl) hin

/-! ## The store of a byte -/

/-- A store outside RAM changes what its own unit holds only. -/
theorem State.stored_store_other {o p : Owner} (ho : o.inRam = false) (hp : p ≠ o) (s : State) (n k : Nat) (v : Byte) :
    (s.store o n v).stored p k = s.stored p k := by
  cases o
  case vram | cram | wram | echo | oam | serial | timer | sound | hram => cases ho
  all_goals cases p <;> first | rfl | exact absurd rfl hp

/-- A store does not change the count of the external timer. -/
theorem State.store_timerEpoch (s : State) (o : Owner) (n : Nat) (v : Byte) : (s.store o n v).timerEpoch = s.timerEpoch := by
  cases o <;> rfl

theorem State.store_owner (s : State) (o : Owner) (n : Nat) (v : Byte) (b : Word) :
    (s.store o n v).owner b = s.owner b := by
  unfold State.owner; rw [State.store_bootMapped]

/-- A unit that is neither RAM nor read-only has one address (rules R53, R31). -/
theorem State.address_unique {s : State} {a b : Word} (hin : (s.owner a).inRam = false)
    (hro : (s.owner a).readOnly = false) (hab : s.owner b = s.owner a) : b = a := by
  have ha : (s.owner a).range s.bootMapped a.toNat := State.owner_range s a
  have hb : (s.owner a).range s.bootMapped b.toNat := hab ▸ State.owner_range s b
  refine BitVec.eq_of_toNat_eq ?_
  cases ho : s.owner a <;> rw [ho] at ha hb hin hro
  case vram | cram | wram | echo | oam | serial | timer | sound | hram => cases hin
  case bootRom | cartRom | gap | ly => cases hro
  all_goals exact Eq.trans hb (Eq.symm ha)

/-- Two addresses that share a byte of RAM are one address, or partners when the echo range shares work RAM (rule R59). -/
theorem State.ramIndex_eq {s : State} {a b : Word}
    (h : s.ramIndex (s.owner b) b.toNat = s.ramIndex (s.owner a) a.toNat) :
    b = a ∨ (s.cfg.echo = .aliasWram ∧ echoPair a.toNat b.toNat = true) := by
  have ha := State.owner_range s a
  have hb := State.owner_range s b
  rw [← BitVec.toNat_inj]
  simp only [State.ramIndex, State.echoAddr] at h
  cases hc : s.cfg.echo with
  | separate => simp only [hc, ite_self] at h; exact .inl h
  | aliasWram =>
    simp only [hc] at h
    simp only [echoPair, Bool.or_eq_true, decide_eq_true_eq, true_and]
    by_cases hao : s.owner a = .echo <;> by_cases hbo : s.owner b = .echo <;>
      simp only [hao, hbo, if_true, if_false, Owner.range] at h ha hb <;> omega

/-- RAM keeps a byte at its own address, or, of the echo range, below 0xFE00 (rule R59). -/
theorem State.ramIndex_self_or_lt (s : State) (b : Word) :
    s.ramIndex (s.owner b) b.toNat = b.toNat ∨ s.ramIndex (s.owner b) b.toNat < 0xFE00 := by
  simp only [State.ramIndex, State.echoAddr]
  split
  · have hb := State.range_of_owner ‹s.owner b = .echo›
    simp only [Owner.range] at hb
    split <;> omega
  · exact .inl rfl

/-- Off object memory no byte of RAM in 0xFE00 to 0xFE9F is read (rule R53). -/
theorem State.ramIndex_of_ne_oam {s : State} {b : Word} (h : s.owner b ≠ .oam) :
    s.ramIndex (s.owner b) b.toNat < 0xFE00 ∨ 0xFEA0 ≤ s.ramIndex (s.owner b) b.toNat := by
  have hout : ¬(0xFE00 ≤ b.toNat ∧ b.toNat < 0xFEA0) := fun hin => h (State.owner_oam hin.1 hin.2)
  have hindex := s.ramIndex_self_or_lt b
  omega

/-- A write touches its own address unless the unit is read-only. -/
theorem writeTouches_self {s : State} {a : Word} (h : (s.owner a).readOnly = false) : writeTouches s a a = true := by
  unfold writeTouches
  cases ho : s.owner a
  case bootRom | cartRom | gap | ly => rw [ho] at h; cases h
  case timer => cases s.cfg.timer <;> simp
  all_goals simp

/-- A write to work RAM or its echo touches the partner of its address (rules R59, R61). -/
theorem writeTouches_echoPair {s : State} {a b : Word} (hc : s.cfg.echo = .aliasWram)
    (h : echoPair a.toNat b.toNat = true) : writeTouches s a b = true := by
  have hpair := h
  simp only [echoPair, Bool.or_eq_true, decide_eq_true_eq] at hpair
  have ho : s.owner a = .echo ∨ s.owner a = .wram := by
    rcases hpair with ⟨hlo, hhi, -⟩ | ⟨hlo, hhi, hab⟩
    · exact .inl (State.owner_echo hlo hhi)
    · exact .inr (State.owner_wram (by omega) (by omega))
  rcases ho with ho | ho <;> simp only [writeTouches, ho, hc, h, Bool.or_true]

/-- A store to a writable unit leaves the reads of every other address alone, but for its partner in the echo range. -/
theorem State.busRead_store_other {s : State} {a b : Word} (hro : (s.owner a).readOnly = false) (hba : b ≠ a)
    (hpair : ¬(s.cfg.echo = .aliasWram ∧ echoPair a.toNat b.toNat = true)) (v : Byte) :
    busRead (s.store (s.owner a) a.toNat v) b = busRead s b := by
  by_cases hin : (s.owner a).inRam = true
  · rw [State.store_of_inRam hin]
    exact busRead_withRam fun _ => Memory.read_write_other _ (fun h => (State.ramIndex_eq h).elim hba hpair) v
  · have hin : (s.owner a).inRam = false := Bool.eq_false_of_not_eq_true hin
    have hother : s.owner b ≠ s.owner a := fun h => hba (State.address_unique hin hro h)
    have hmem : OnlyMemory s (s.store (s.owner a) a.toNat v) := State.store_onlyMemory s _ _ v
    refine busRead_congr (State.store_owner s _ _ v b).symm ?_ hmem.mode.symm hmem.cfg.symm
      fun _ => (State.store_timerEpoch s _ _ v).symm
    rw [State.store_owner, State.stored_store_other hin hother]

/-! ## The hook of a write -/

/-- The states a write of `v` to an address of `o` can be in after its hook (rule R61). -/
inductive Hooked (s : State) (a : Word) (v : Byte) (o : Owner) : State → Prop
  | same : Hooked s a v o s
  | bank (ho : o = .cartRom) (hc : s.cfg.cartType = .banked) (ha : 0x2000 ≤ a.toNat ∧ a.toNat < 0x4000) :
    Hooked s a v o { s with romBank := bankOf v }
  | epoch (ho : o = .timer) (hc : s.cfg.timer = .external) : Hooked s a v o { s with timerEpoch := s.timerEpoch + 1 }
  | copied (ho : o = .dma) (m : Memory) (hm : ∀ k, k < 0xFE00 ∨ 0xFEA0 ≤ k → m.read k = s.ram.read k) :
    Hooked s a v o { s with ram := m }
  | unmapped (ho : o = .unmap) : Hooked s a v o { s with bootMapped := false }

theorem State.onWrite_hooked {s u : State} {o : Owner} {a : Word} {v : Byte} {w : Option Byte}
    (h : s.onWrite o a v = .ok (u, w)) : Hooked s a v o u := by
  cases o <;> simp only [State.onWrite] at h
  case cartRom =>
    split at h
    · cases h; exact .same
    · split at h <;> cases h
      · exact .bank rfl ‹_› ‹_›
      · exact .same
  case timer =>
    split at h <;> cases h
    · exact .epoch rfl ‹_›
    · exact .same
  case dma =>
    split at h <;> cases h
    obtain ⟨m, rfl, -, hm⟩ := dmaLoop_inv ‹_›
    exact .copied rfl m fun k hk => hm k (by omega)
  case unmap => cases h; exact .unmapped rfl
  all_goals cases h; exact .same

/-- The owner of an address past the boot ROM's range does not depend on the mapping (rule R55). -/
theorem owner_of_ge {n : Nat} (h : 0x0100 ≤ n) (m m' : Bool) : Machine.owner m n = Machine.owner m' n := by
  simp only [Machine.owner, if_neg (Nat.not_lt.2 h)]

/-- A hook leaves the reads of every untouched address alone. -/
theorem Hooked.sameOutside {s u : State} {a : Word} {v : Byte} (h : Hooked s a v (s.owner a) u) :
    SameOutside s u (writeTouches s a) := by
  intro b hb
  cases h with
  | same => rfl
  | bank ho hc ha =>
    simp only [writeTouches, ho, hc, decide_eq_false_iff_not] at hb
    refine busRead_congr (s := s) rfl ?_ rfl rfl fun _ => rfl
    show s.stored (s.owner b) _ = State.stored { s with romBank := bankOf v } (s.owner b) _
    cases hob : s.owner b
    case cartRom =>
      have hrange := State.range_of_owner hob
      simp only [Owner.range] at hrange
      have hlow : b.toNat < 0x4000 := by omega
      simp only [State.stored, State.cartIndex, hc, if_pos hlow]
    all_goals rfl
  | epoch ho hc =>
    simp only [writeTouches, ho, hc, decide_eq_false_iff_not] at hb
    exact busRead_congr (s := s) rfl rfl rfl rfl fun h => absurd h hb
  | copied ho m hm =>
    simp only [writeTouches, ho, Bool.or_eq_false_iff, decide_eq_false_iff_not] at hb
    exact busRead_withRam fun _ => hm _ (State.ramIndex_of_ne_oam hb.2)
  | unmapped ho =>
    simp only [writeTouches, ho, Bool.or_eq_false_iff, decide_eq_false_iff_not] at hb
    have howner : State.owner { s with bootMapped := false } b = s.owner b := owner_of_ge (by omega) _ _
    exact busRead_congr howner.symm (by rw [howner]; cases s.owner b <;> rfl) rfl rfl fun _ => rfl

/-- A hook leaves the owner of the address alone. -/
theorem Hooked.owner_eq {s u : State} {a : Word} {v : Byte} (h : Hooked s a v (s.owner a) u) : u.owner a = s.owner a := by
  cases h with
  | unmapped ho =>
    have ha : a.toNat = 0xFF50 := State.range_of_owner ho
    exact owner_of_ge (by omega) _ _
  | _ => rfl

/-- A write that succeeds is its hook and then the store, unless the hook vetoes it or the unit is read-only. -/
theorem busWrite_hooked {s t : State} {a : Word} {v : Byte} (h : busWrite s a v = .ok t) :
    ∃ u, Hooked s a v (s.owner a) u ∧
      (t = u ∨ ((s.owner a).readOnly = false ∧ t = u.store (s.owner a) a.toNat v)) := by
  obtain ⟨-, u, w, hw, rfl⟩ := busWrite_ok_inv h
  refine ⟨u, State.onWrite_hooked hw, ?_⟩
  obtain ⟨-, -, -, rfl | rfl⟩ := State.onWrite_inv hw
  · exact .inl rfl
  · by_cases hro : (s.owner a).readOnly = true
    · exact .inl (if_pos hro)
    · exact .inr ⟨Bool.eq_false_of_not_eq_true hro, if_neg hro⟩

/-! ## The frame of a write -/

theorem Hooked.cfg_eq {s u : State} {a : Word} {v : Byte} {o : Owner} (h : Hooked s a v o u) : u.cfg = s.cfg := by
  cases h <;> rfl

theorem busWrite_sameOutside {s t : State} {a : Word} {v : Byte} (h : busWrite s a v = .ok t) :
    SameOutside s t (writeTouches s a) := by
  intro b hb
  obtain ⟨u, hu, rfl | ⟨hro, rfl⟩⟩ := busWrite_hooked h
  · exact hu.sameOutside b hb
  · have hba : b ≠ a := by rintro rfl; rw [writeTouches_self hro] at hb; cases hb
    have hpair : ¬(u.cfg.echo = .aliasWram ∧ echoPair a.toNat b.toNat = true) := by
      rintro ⟨hc, hp⟩
      rw [writeTouches_echoPair (hu.cfg_eq ▸ hc) hp] at hb; cases hb
    rw [← hu.owner_eq] at hro ⊢
    rw [State.busRead_store_other hro hba hpair]
    exact hu.sameOutside b hb

/-- A hook changes object memory only, as the DMA's, and the bank only, as the cartridge's. -/
theorem Hooked.storage {s u : State} {a : Word} {v : Byte} {o : Owner} (h : Hooked s a v o u) :
    (∀ k : Nat, (o = .dma → k < 0xFE00 ∨ 0xFEA0 ≤ k) → u.ram.read k = s.ram.read k) ∧
      (o ≠ .cartRom → u.romBank = s.romBank) := by
  cases h with
  | bank ho => exact ⟨fun _ _ => rfl, fun hne => absurd ho hne⟩
  | copied ho m hm => exact ⟨fun k hk => hm k (hk ho), fun _ => rfl⟩
  | _ => exact ⟨fun _ _ => rfl, fun _ => rfl⟩

/-- A store changes one byte of RAM at most. -/
theorem State.store_ram_read {s : State} {o : Owner} {n k : Nat} (hn : k ≠ n) (hecho : o = .echo → k ≠ s.echoAddr n)
    (v : Byte) : (s.store o n v).ram.read k = s.ram.read k := by
  by_cases hin : o.inRam = true
  · rw [State.store_of_inRam hin]
    refine Memory.read_write_other _ ?_ v
    rw [State.ramIndex]
    split
    · exact hecho ‹_›
    · exact hn
  · cases o <;> first | rfl | exact absurd rfl hin

/-- Settles O48: what the hook leaves alone, and what the store leaves alone after it. -/
theorem writeFrame : Obligations.WriteFrame := by
  intro s t a v h
  refine ⟨busWrite_sameOutside h, (busWrite_inv h).1, ?_⟩
  obtain ⟨u, hu, rfl | ⟨-, rfl⟩⟩ := busWrite_hooked h
  · exact ⟨fun k _ _ => hu.storage.1 k, hu.storage.2⟩
  · rw [State.store_romBank]
    refine ⟨fun k hk hecho hdma => ?_, hu.storage.2⟩
    have hindex : s.owner a = .echo → k ≠ u.echoAddr a.toNat := by
      rw [State.echoAddr, hu.cfg_eq]; exact hecho
    rw [State.store_ram_read hk hindex]
    exact hu.storage.1 k hdma

/-! ## A write and then a read -/

/-- The unit takes writes and shows what was written: video RAM and object memory while they are not blocked, the timer
that is not external; STAT and the joypad, whose reads are recomputed, never do (rules R33, R58, R246, R270). -/
def State.Shows (s : State) : Owner → Prop
  | .vram => s.vramBlocked = false
  | .oam => s.oamBlocked = false
  | .timer => s.cfg.timer = .none
  | .stat | .joypad => False
  | o => o.readOnly = false

theorem State.stored_store_same {s : State} {o : Owner} (ho : s.Shows o) (hwf : s.ram.wf = true) (n : Nat) (v : Byte) :
    (s.store o n v).stored o n = v := by
  by_cases hin : o.inRam = true
  · rw [State.stored_of_inRam hin, State.store_of_inRam hin]
    exact Memory.read_write_same hwf _ v
  · cases o <;> first | rfl | exact absurd rfl hin | cases ho

theorem State.onRead_of_shows {s : State} {o : Owner} (ho : s.Shows o) (a : Word) (x : Byte) : s.onRead o a x = x := by
  cases o
  case vram | oam => exact if_neg (Bool.eq_false_iff.1 ho)
  case timer => simp only [State.onRead, show s.cfg.timer = .none from ho]
  all_goals rfl

theorem State.Shows.congr {s t : State} {o : Owner} (h : s.Shows o) (hmode : t.ppu.mode = s.ppu.mode)
    (hcfg : t.cfg = s.cfg) : t.Shows o := by
  cases o
  case vram => exact (show t.vramBlocked = s.vramBlocked by simp only [State.vramBlocked, hmode]).trans h
  case oam => exact (show t.oamBlocked = s.oamBlocked by simp only [State.oamBlocked, hmode, hcfg]).trans h
  case timer => exact (congrArg Config.timer hcfg).trans h
  all_goals exact h

theorem State.onWrite_of_shows {s u : State} {o : Owner} (ho : s.Shows o) {a : Word} {v : Byte} {w : Option Byte}
    (h : s.onWrite o a v = .ok (u, w)) : w = some v := by
  cases o <;> simp only [State.onWrite] at h
  case vram | oam => rw [if_neg (Bool.eq_false_iff.1 ho)] at h; cases h; rfl
  case timer => simp only [show s.cfg.timer = .none from ho] at h; cases h; rfl
  case dma => split at h <;> cases h; rfl
  case cartRom => cases ho
  all_goals cases h; rfl

theorem State.Shows.not_readOnly {s : State} {o : Owner} (h : s.Shows o) : o.readOnly = false := by
  cases o <;> first | rfl | cases h

/-- A read after a write to a unit that shows it answers the byte written. -/
theorem busRead_of_busWrite {s t : State} {a : Word} {v : Byte} (hwf : s.ram.wf = true) (h : busWrite s a v = .ok t)
    (ho : s.Shows (s.owner a)) : busRead t a = .ok v := by
  have hmem : OnlyMemory s t := (busWrite_inv h).1
  obtain ⟨hgap, u, w, hw, rfl⟩ := busWrite_ok_inv h
  obtain ⟨hu, huwf, -⟩ := State.onWrite_inv hw
  obtain rfl : w = some v := State.onWrite_of_shows ho hw
  simp only [if_neg (Bool.eq_false_iff.1 ho.not_readOnly)] at hmem ⊢
  have howner : State.owner (u.store (s.owner a) a.toNat v) a = s.owner a := by
    rw [State.store_owner, (State.onWrite_hooked hw).owner_eq]
  have hng : isGap a = false := by rwa [← Bool.not_eq_true, ← s.owner_eq_gap_iff]
  rw [busRead_of_not_gap hng, howner, State.stored_store_same (ho.congr hu.mode hu.cfg) (huwf hwf),
    State.onRead_of_shows (ho.congr hmem.mode hmem.cfg)]

/-- A write to a read-only unit does not change what its own address reads: the bank hook switches other addresses
(rules R57, R61). -/
theorem writeTouches_self_of_readOnly {s : State} {a : Word} (h : (s.owner a).readOnly = true) :
    writeTouches s a a = false := by
  unfold writeTouches
  cases ho : s.owner a
  case bootRom | gap | ly => rfl
  case cartRom =>
    cases s.cfg.cartType
    · rfl
    · simp only [decide_eq_false_iff_not]; omega
  all_goals rw [ho] at h; cases h

/-- Settles O47: a writable unit shows the byte, and on a read-only one the write does not touch its own address. -/
theorem writeThenRead : Obligations.WriteThenRead := by
  intro s t a v hwf h
  have hshows : s.Shows (s.owner a) → busRead t a = .ok v := busRead_of_busWrite hwf h
  have hkept : (s.owner a).readOnly = true → busRead t a = busRead s a := fun hro =>
    busWrite_sameOutside h a (writeTouches_self_of_readOnly hro)
  cases ho : s.owner a <;> rw [ho] at hshows hkept
  case bootRom | cartRom | ly => exact hkept rfl
  case vram | oam | timer => exact hshows
  case stat | joypad | gap => trivial
  all_goals exact hshows rfl

end Sys2Proof.Machine
end

section
/-! PROOFS. The DMA copy: what object memory holds after it (O51). -/

namespace Sys2Proof.Machine

/-- A copy that succeeds read its first source, wrote that byte, and went on. -/
theorem dmaLoop_succ_inv {n : Nat} {src : Word} {i : Nat} {s t : State} (h : dmaLoop (n + 1) src i s = .ok t) :
    ∃ b, busRead s src = .ok b ∧ dmaLoop n (src + 1) (i + 1) { s with ram := s.ram.write (0xFE00 + i) b } = .ok t := by
  simp only [dmaLoop] at h
  split at h
  · exact ⟨_, ‹_›, h⟩
  · cases h

/-- A copy leaves the bytes before its first target alone. -/
theorem dmaLoop_read_before {n : Nat} {src : Word} {i k : Nat} {s t : State} (h : dmaLoop n src i s = .ok t)
    (hk : k < 0xFE00 + i) : t.ram.read k = s.ram.read k := by
  obtain ⟨m, rfl, -, hm⟩ := dmaLoop_inv h
  exact hm k (.inl hk)

/-- A copy that succeeds leaves in object memory what the bus read of each source before it, when no source is a byte that
the copy has already written. -/
theorem dmaLoop_copies {n : Nat} {src : Word} {i : Nat} {s t : State} (h : dmaLoop n src i s = .ok t)
    (hwf : s.ram.wf = true)
    (hsrc : ∀ j k, j < k → k < n → (src + BitVec.ofNat 16 k).toNat ≠ 0xFE00 + i + j) :
    ∀ k, k < n → busRead s (src + BitVec.ofNat 16 k) = .ok (t.ram.read (0xFE00 + i + k)) := by
  induction n generalizing src i s with
  | zero => exact fun k hk => absurd hk (Nat.not_lt_zero k)
  | succ n ih =>
    obtain ⟨b, hb, hrest⟩ := dmaLoop_succ_inv h
    have hnext (k : Nat) : src + 1 + BitVec.ofNat 16 k = src + BitVec.ofNat 16 (k + 1) := by
      rw [BitVec.add_assoc, Nat.add_comm k 1, BitVec.ofNat_add]; rfl
    rintro (_ | k) hk
    · rw [dmaLoop_read_before hrest (by omega)]
      exact (congrArg (busRead s) (BitVec.add_zero src)).trans
        (hb.trans (congrArg _ (Memory.read_write_same hwf _ b).symm))
    · have hcopied := ih hrest (Memory.wf_write hwf _ b) (fun j k hjk hk => by
        have hne := hsrc (j + 1) (k + 1) (by omega) (by omega)
        rw [hnext]; omega) k (by omega)
      rw [hnext, show 0xFE00 + (i + 1) + k = 0xFE00 + i + (k + 1) by omega] at hcopied
      have hindex := s.ramIndex_self_or_lt (src + BitVec.ofNat 16 (k + 1))
      have hne := hsrc 0 (k + 1) (by omega) hk
      rw [← hcopied]
      exact (busRead_withRam fun _ => Memory.read_write_other _ (by omega) b).symm

/-- The sources of a copy as numbers. -/
theorem dma_source_toNat {v : Byte} (hv : v ≠ 0xFF) {k : Nat} (hk : k < 160) :
    (mkWord v 0 + BitVec.ofNat 16 k).toNat = 256 * v.toNat + k := by
  have hlt := v.isLt
  have hne : v.toNat ≠ 255 := fun h => hv (BitVec.eq_of_toNat_eq h)
  rw [BitVec.toNat_add, mkWord_toNat, BitVec.toNat_ofNat, show (0 : Byte).toNat = 0 from rfl]
  omega

/-- Settles O51: the copy completes, and a source in object memory is the byte that the copy writes there itself. -/
theorem dmaCopies : Obligations.DmaCopies := by
  intro s v hwf hv
  have hne : v.toNat ≠ 255 := fun h => hv (BitVec.eq_of_toNat_eq h)
  obtain ⟨t, ht⟩ := dmaCopy_ok hv s
  obtain ⟨m, rfl, -, hm⟩ := dmaLoop_inv ht
  have hcopy := dmaLoop_copies ht hwf fun j k hjk hk => by rw [dma_source_toNat hv hk]; omega
  refine ⟨m, by rw [busWrite_dma, ht]; rfl, fun k hk => ?_, fun k hk => hm k (by omega)⟩
  have hsource : BitVec.ofNat 16 (256 * v.toNat + k) = mkWord v 0 + BitVec.ofNat 16 k := by
    rw [← dma_source_toNat hv hk, BitVec.ofNat_toNat, BitVec.setWidth_eq]
  rw [hsource]
  exact hcopy k hk

end Sys2Proof.Machine
end

section
/-! PROOFS. The round trip: the bytes of an instruction, whatever follows them, decode to it (O1, O4). -/

namespace Sys2Proof

/-- Three bytes decode to the word instruction of their opcode's line: the word is put together again from its two bytes, low
byte first (rule R63). -/
theorem decode_word {op : Byte} {line : Word → Instr} (hlen : lengthOf op = .three)
    (hline : ∀ n1 n2, decodeOp op n1 n2 = line (mkWord n2 n1)) (w : Word) (rest : List Byte) :
    decode (op :: loByte w :: hiByte w :: rest) = .ok (line w, rest) := by
  simp only [decode, decodeWith, lengthOfWith_default, decodeOpWith_default, hlen, hline, mkWord_hiByte_loByte]

/-- The encoding of an instruction, whatever follows it, decodes to the instruction: by the lines of the maps, each at its
own opcode. Only a word operand is not already in the bytes as it stands. -/
theorem decode_encode (i : Instr) : ∀ rest : List Byte, decode (encode i ++ rest) = .ok (i, rest) := by
  revert i
  apply Instr.families
  case ldRrD16 => intro r; cases r <;> exact decode_word rfl fun _ _ => rfl
  case jpCc => intro cc; cases cc <;> exact decode_word rfl fun _ _ => rfl
  case callCc => intro cc; cases cc <;> exact decode_word rfl fun _ _ => rfl
  case ldMemA16Sp | ldMemA16A | ldAMemA16 | jpA16 | callA16 => exact decode_word rfl fun _ _ => rfl
  case ldR8R8 => rintro ((_ | _ | _ | _ | _ | _ | _) | _) ((_ | _ | _ | _ | _ | _ | _) | _) _ rest <;> rfl
  case ldR8D8 => rintro ((_ | _ | _ | _ | _ | _ | _) | _) v rest <;> rfl
  case incR8 | decR8 => rintro ((_ | _ | _ | _ | _ | _ | _) | _) rest <;> rfl
  case aluR8 | rotR8 => rintro op ((_ | _ | _ | _ | _ | _ | _) | _) rest <;> cases op <;> rfl
  case bitR8 | resR8 | setR8 => rintro b ((_ | _ | _ | _ | _ | _ | _) | _) rest <;> cases b <;> rfl
  case aluD8 => intro op v rest; cases op <;> rfl
  case addHlRr | incRr | decRr => intro r rest; cases r <;> rfl
  case pushQq | popQq => intro q rest; cases q <;> rfl
  case jrCc => intro cc e rest; cases cc <;> rfl
  case retCc => intro cc rest; cases cc <;> rfl
  case rst => intro t rest; cases t <;> rfl
  case unrecognized => intro i hi rest; cases i <;> cases hi <;> rfl
  all_goals intros; rfl

/-- Settles O1: `decode_encode`; the operands have the widths of their fields, so that no instruction is ill-formed. -/
theorem decodeEncodeRoundTrip : Obligations.DecodeEncodeRoundTrip := fun i rest _ => decode_encode i rest

/-- Settles O4: the sixteen byte strings are the encodings of the instructions. -/
theorem sampleWordsDecode : Obligations.SampleWordsDecode := by
  have hdecode {bs : List Byte} (i : Instr) (h : encode i ++ [] = bs) : decode bs = .ok (i, []) :=
    h ▸ decode_encode i []
  exact ⟨hdecode .ldBC rfl, hdecode (.ldBD8 0xAB) rfl, hdecode (.ldMemA16A 0xC234) rfl,
    hdecode (.ldMemA16Sp 0xC100) rfl, hdecode .pushAf rfl, hdecode (.adcAD8 0x01) rfl, hdecode .addHlSp rfl,
    hdecode .rra rfl, hdecode .swapMemHl rfl, hdecode .bit7H rfl, hdecode .set3MemHl rfl, hdecode (.jrCE8 0xFE) rfl,
    hdecode (.callA16 0x1234) rfl, hdecode .rst28 rfl, hdecode .halt rfl, hdecode .unrecognizedFC rfl⟩

end Sys2Proof
end

section
/-! PROOFS. The 8-bit loads and stores: registers and immediates (O19), A from memory (O20), a byte to memory (O21). -/

namespace Sys2Proof.Machine

/-! ## Encodings and counts of the two families -/

theorem encode_ldR8R8 {d q : R8} (h : ¬(d = .memHl ∧ q = .memHl)) :
    encode (.ldR8R8 d q) = [0x40 + 8 * d.code + q.code] := by
  rcases d with x | _ <;> rcases q with y | _
  · cases x <;> cases y <;> rfl
  · cases x <;> rfl
  · cases y <;> rfl
  · exact absurd ⟨rfl, rfl⟩ h

theorem encode_ldR8D8 (d : R8) (v : Byte) : encode (.ldR8D8 d v) = [0x06 + 8 * d.code, v] := by
  rcases d with (_ | _ | _ | _ | _ | _ | _) | _ <;> rfl

theorem costOf_ldR8R8_reg (r q : Reg) (f : Flags) : costOf Config.default (.ldR8R8 (.reg r) (.reg q)) f = 4 := by
  cases r <;> cases q <;> rfl

theorem costOf_ldR8R8_fromMem (r : Reg) (f : Flags) : costOf Config.default (.ldR8R8 (.reg r) .memHl) f = 8 := by
  cases r <;> rfl

theorem costOf_ldR8R8_toMem (r : Reg) (f : Flags) : costOf Config.default (.ldR8R8 .memHl (.reg r)) f = 8 := by
  cases r <;> rfl

theorem costOf_ldR8D8_reg (r : Reg) (v : Byte) (f : Flags) : costOf Config.default (.ldR8D8 (.reg r) v) f = 8 := by
  cases r <;> rfl

/-! ## Loads -/

theorem move_fromMem {s : State} {r : Reg} {v : Byte} (h : busRead s s.hl = .ok v) :
    move (.reg r) .memHl s = .ok (s.setReg r v) := by
  simp only [move, readR8, h, writeR8]

theorem loadA_ok {s : State} {a : Word} {v : Byte} (h : busRead s a = .ok v) : loadA a s = .ok (s.setReg .a v) := by
  simp only [loadA, h]

@[simp] theorem thenSet_ok (s : State) (f : State → State) : thenSet (.ok s) f = .ok (f s) := rfl

/-- Settles O19: the family's meaning is `move`, or a write of the immediate, to a register. -/
theorem loadRegister : Obligations.LoadRegister := by
  intro s r q v
  have hreg : ¬(R8.reg r = .memHl ∧ R8.reg q = .memHl) := fun h => nomatch h.1
  have hmem : ¬(R8.reg r = .memHl ∧ R8.memHl = .memHl) := fun h => nomatch h.1
  have hcode : (0x40 : Byte) + 8 * r.code + 6 = 0x46 + 8 * r.code := by cases r <;> rfl
  refine ⟨⟨encode_ldR8R8 hreg, .of_finish (exec_ldR8R8 s hreg) rfl (costOf_ldR8R8_reg r q _)⟩,
    ⟨encode_ldR8D8 (.reg r) v, .of_finish (exec_ldR8D8 s (.reg r) v) rfl (costOf_ldR8D8_reg r v _)⟩,
    (encode_ldR8R8 hmem).trans (congrArg (fun b => [b]) hcode), fun h => ?_⟩
  exact .of_finish (exec_ldR8R8 s hmem) (move_fromMem h) (costOf_ldR8R8_fromMem r _)

/-- Settles O20: every meaning is `loadA` of the form's address, and in two of them HL is stepped after it. -/
theorem loadAccumulator : Obligations.LoadAccumulator := by
  intro s v a8 a16
  have hstep (d : Word) (h : busRead s s.hl = .ok v) :
      thenSet (loadA s.hl s) (stepHl d) = .ok ((s.setReg .a v).setHl (s.hl + d)) := by
    rw [loadA_ok h]; rfl
  refine ⟨⟨rfl, fun h => .of_finish rfl (loadA_ok h) rfl⟩, ⟨rfl, fun h => .of_finish rfl (loadA_ok h) rfl⟩,
    ⟨rfl, fun h => .of_finish rfl (loadA_ok h) rfl⟩, ⟨rfl, fun h => .of_finish rfl (loadA_ok h) rfl⟩,
    ⟨rfl, fun h => .of_finish rfl (loadA_ok h) rfl⟩, ⟨rfl, fun h => .of_finish rfl (hstep 1 h) rfl⟩, rfl, fun h => ?_⟩
  rw [sub_eq_add_neg]
  exact .of_finish rfl (hstep (-1) h) rfl

/-! ## Stores -/

/-- An instruction whose body writes the byte, and then at most the CPU, stores it and leaves the rest alone. -/
theorem StoresByte.of_finish {i : Instr} {s : State} {a : Word} {v : Byte} {n : Nat} {g : State → State}
    {r : Except Fault State} (hok : storeOk a v = true) (hexec : exec i s = finish (costOf s.cfg i s.cpu.flags) r)
    (hbody : ∀ t, busWrite s a v = .ok t → r = .ok (g t)) (hread : ∀ t b, busRead (g t) b = busRead t b)
    (hcost : costOf Config.default i s.cpu.flags = n) : StoresByte i s a v n g := by
  obtain ⟨t, ht⟩ := busWrite_ok_iff (s := s).2 hok
  exact ⟨t, ht, .of_finish hexec (hbody t ht) hcost, fun b hb => (hread t b).trans (busWrite_sameOutside ht b hb),
    (busWrite_inv ht).1⟩

/-- A body that is the write alone. -/
theorem StoresByte.of_busWrite {i : Instr} {s : State} {a : Word} {v : Byte} {n : Nat} (hok : storeOk a v = true)
    (hexec : exec i s = finish (costOf s.cfg i s.cpu.flags) (busWrite s a v))
    (hcost : costOf Config.default i s.cpu.flags = n) : StoresByte i s a v n id :=
  .of_finish hok hexec (fun _ ht => ht) (fun _ _ => rfl) hcost

/-- A write leaves HL alone, so that the step after it is that of the old HL. -/
theorem thenSet_storeA_stepHl {s t : State} {a : Word} (d : Word) (h : busWrite s a s.cpu.a = .ok t) :
    thenSet (storeA a s) (stepHl d) = .ok (t.setHl (s.hl + d)) := by
  have hhl : t.hl = s.hl := by rw [State.hl, (busWrite_inv h).1.cpu, State.hl]
  rw [storeA, h, thenSet_ok, stepHl, hhl]

/-- Settles O21: every meaning is a write of the form's byte at its address, and in two of them HL is stepped after it. -/
theorem storeByte : Obligations.StoreByte := by
  intro s r v a8 a16
  have hreg : ¬(R8.memHl = .memHl ∧ R8.reg r = .memHl) := fun h => nomatch h.2
  refine ⟨⟨encode_ldR8R8 hreg, fun h => .of_busWrite h (exec_ldR8R8 s hreg) (costOf_ldR8R8_toMem r _)⟩,
    ⟨rfl, fun h => .of_busWrite h rfl rfl⟩, ⟨rfl, fun h => .of_busWrite h rfl rfl⟩,
    ⟨rfl, fun h => .of_busWrite h rfl rfl⟩, ⟨rfl, fun h => .of_busWrite h rfl rfl⟩,
    ⟨rfl, fun h => .of_busWrite h rfl rfl⟩, ⟨rfl, fun h => .of_busWrite h rfl rfl⟩,
    ⟨rfl, fun h => .of_finish h rfl (fun _ => thenSet_storeA_stepHl 1) (busRead_setHl · _) rfl⟩, rfl, fun h => ?_⟩
  rw [sub_eq_add_neg]
  exact .of_finish h rfl (fun _ => thenSet_storeA_stepHl (-1)) (busRead_setHl · _) rfl

end Sys2Proof.Machine
end

section
/-! PROOFS. The 16-bit loads and arithmetic: register pairs (O22), SP with a displacement (O24), the words stored through
the bus (O23, O25) and the words popped (O26). -/

namespace Sys2Proof.Machine

/-! ## Encodings and counts of the families of pairs (rules R93, R98) -/

theorem encode_ldRrD16 (r : RR) (w : Word) : encode (.ldRrD16 r w) = [0x01 + 16 * r.code, loByte w, hiByte w] := by
  cases r <;> rfl

theorem encode_incRr (r : RR) : encode (.incRr r) = [0x03 + 16 * r.code] := by cases r <;> rfl

theorem encode_decRr (r : RR) : encode (.decRr r) = [0x0B + 16 * r.code] := by cases r <;> rfl

theorem encode_addHlRr (r : RR) : encode (.addHlRr r) = [0x09 + 16 * r.code] := by cases r <;> rfl

theorem encode_pushQq (q : QQ) : encode (.pushQq q) = [0xC5 + 16 * q.code] := by cases q <;> rfl

theorem encode_popQq (q : QQ) : encode (.popQq q) = [0xC1 + 16 * q.code] := by cases q <;> rfl

theorem costOf_ldRrD16 (r : RR) (w : Word) (f : Flags) : costOf Config.default (.ldRrD16 r w) f = 12 := by cases r <;> rfl

theorem costOf_incRr (r : RR) (f : Flags) : costOf Config.default (.incRr r) f = 8 := by cases r <;> rfl

theorem costOf_decRr (r : RR) (f : Flags) : costOf Config.default (.decRr r) f = 8 := by cases r <;> rfl

theorem costOf_addHlRr (r : RR) (f : Flags) : costOf Config.default (.addHlRr r) f = 8 := by cases r <;> rfl

theorem costOf_pushQq (q : QQ) (f : Flags) : costOf Config.default (.pushQq q) f = 16 := by cases q <;> rfl

theorem costOf_popQq (q : QQ) (f : Flags) : costOf Config.default (.popQq q) f = 12 := by cases q <;> rfl

/-! ## Pairs -/

/-- A sum of numbers cut to 16 bits is the sum of the words (rule R6). -/
theorem ofNat_toNat_add (w : Word) (n : Nat) : BitVec.ofNat 16 (w.toNat + n) = w + BitVec.ofNat 16 n := by
  rw [BitVec.ofNat_add, BitVec.ofNat_toNat, BitVec.setWidth_eq]

theorem addHl_eq (w : Word) (s : State) :
    addHl w s = (s.setHl (BitVec.ofNat 16 (s.hl.toNat + w.toNat))).setFlags (add16 s.hl w s.cpu.flags).2 := by
  rw [ofNat_toNat_add, BitVec.ofNat_toNat, BitVec.setWidth_eq]
  rfl

/-- Settles O22: each family's meaning, with its word read as a sum of numbers modulo 65536. -/
theorem pairInstructions : Obligations.PairInstructions := by
  intro s r w
  have hdec : s.rr r - 1 = s.rr r + BitVec.ofNat 16 0xFFFF := sub_eq_add_neg _ _
  rw [ofNat_toNat_add, ofNat_toNat_add, ← hdec]
  refine ⟨⟨encode_ldRrD16 r w, exec_ldRrD16 s r w, costOf_ldRrD16 r w _⟩, ⟨rfl, rfl, rfl⟩,
    ⟨encode_incRr r, exec_incRr s r, costOf_incRr r _⟩, ⟨encode_decRr r, exec_decRr s r, costOf_decRr r _⟩,
    encode_addHlRr r, ?_, costOf_addHlRr r _⟩
  rw [exec_addHlRr, addHl_eq]
  rfl

/-! ## SP and a signed displacement -/

/-- Adding the extended byte adds its signed value modulo 65536 (rules R6, R95). -/
theorem add_signExt (w : Word) (e : Byte) : w + signExt e = BitVec.ofInt 16 (w.toNat + e.toInt) := by
  rw [BitVec.ofInt_add, BitVec.ofInt_natCast, BitVec.ofNat_toNat, BitVec.setWidth_eq]
  rfl

/-- Settles O24: both bodies write `addSpDisp`, whose word is the signed sum and whose flags are the statement's. -/
theorem spPlusDisplacement : Obligations.SpPlusDisplacement := by
  intro s u
  rw [← add_signExt]
  exact ⟨⟨rfl, .of_finish rfl rfl rfl⟩, rfl, .of_finish rfl rfl rfl⟩

/-! ## Two bytes stored -/

/-- An instruction whose body writes two bytes, and then at most the CPU, stores them and leaves the rest alone. -/
theorem StoresTwo.of_finish {i : Instr} {s : State} {a1 a2 : Word} {v1 v2 : Byte} {n : Nat} {g : State → State}
    {r : Except Fault State} (hok1 : storeOk a1 v1 = true) (hok2 : storeOk a2 v2 = true)
    (hexec : exec i s = finish (costOf s.cfg i s.cpu.flags) r)
    (hbody : ∀ t1 t2, busWrite s a1 v1 = .ok t1 → busWrite t1 a2 v2 = .ok t2 → r = .ok (g t2))
    (hread : ∀ t b, busRead (g t) b = busRead t b) (hcost : costOf Config.default i s.cpu.flags = n) :
    StoresTwo i s a1 v1 a2 v2 n g := by
  obtain ⟨t1, ht1⟩ := busWrite_ok_iff (s := s).2 hok1
  obtain ⟨t2, ht2⟩ := busWrite_ok_iff (s := t1).2 hok2
  refine ⟨t1, t2, ht1, ht2, .of_finish hexec (hbody t1 t2 ht1 ht2) hcost, fun b hb => ?_,
    (busWrite_inv ht1).1.trans (busWrite_inv ht2).1⟩
  obtain ⟨hb1, hb2⟩ := Bool.or_eq_false_iff.1 hb
  calc busRead (g t2) b = busRead t2 b := hread t2 b
    _ = busRead t1 b := busWrite_sameOutside ht2 b hb2
    _ = busRead s b := busWrite_sameOutside ht1 b hb1

theorem busWrite16_of_busWrites {s t1 t2 : State} {a w : Word} (h1 : busWrite s a (loByte w) = .ok t1)
    (h2 : busWrite t1 (a + 1) (hiByte w) = .ok t2) : busWrite16 s a w = .ok t2 := by
  simp only [busWrite16, h1, h2]

theorem push16_of_busWrites {s t1 t2 : State} {w : Word} (h1 : busWrite s (s.cpu.sp - 1) (hiByte w) = .ok t1)
    (h2 : busWrite t1 (s.cpu.sp - 2) (loByte w) = .ok t2) : push16 w s = .ok (t2.setSp (s.cpu.sp - 2)) := by
  simp only [push16_eq, h1, h2]

/-- Settles O23: the body is the 16-bit store of SP. -/
theorem storeStackPointer : Obligations.StoreStackPointer := fun _ _ =>
  ⟨rfl, fun h1 h2 => .of_finish h1 h2 rfl (fun _ _ => busWrite16_of_busWrites) (fun _ _ => rfl) rfl⟩

/-- Settles O25: the family's meaning is `push16` of the pair. -/
theorem pushPair : Obligations.PushPair := fun s q =>
  ⟨encode_pushQq q, fun h1 h2 =>
    .of_finish h1 h2 (exec_pushQq s q) (fun _ _ => push16_of_busWrites) (busRead_setSp · _) (costOf_pushQq q _)⟩

/-! ## A word popped -/

/-- POP completes when both bytes answer, the pair holding the byte at SP + 1 over the byte at SP. -/
theorem completes_popQq {s : State} {l h : Byte} (hl : busRead s s.cpu.sp = .ok l)
    (hh : busRead s (s.cpu.sp + 1) = .ok h) (q : QQ) :
    Completes (.popQq q) s ((s.setSp (s.cpu.sp + 2)).setQq q (mkWord h l)) 12 :=
  ⟨exec_popQq_of_pop16 (pop16_ok hl hh), costOf_popQq q _⟩

theorem State.setBc_mkWord (s : State) (h l : Byte) : s.setBc (mkWord h l) = (s.setReg .b h).setReg .c l := by
  rw [State.setBc, hiByte_mkWord, loByte_mkWord]
  rfl

theorem State.setDe_mkWord (s : State) (h l : Byte) : s.setDe (mkWord h l) = (s.setReg .d h).setReg .e l := by
  rw [State.setDe, hiByte_mkWord, loByte_mkWord]
  rfl

theorem State.setHl_mkWord (s : State) (h l : Byte) : s.setHl (mkWord h l) = (s.setReg .h h).setReg .l l := by
  rw [State.setHl, hiByte_mkWord, loByte_mkWord]
  rfl

theorem State.setAf_mkWord (s : State) (h l : Byte) :
    s.setAf (mkWord h l) = (s.setReg .a h).setFlags (Flags.ofByte l) := by
  rw [State.setAf, hiByte_mkWord, loByte_mkWord]
  rfl

/-- Settles O26: the family's meaning, with each pair's write taken apart into its two registers. -/
theorem popPair : Obligations.PopPair := by
  intro s l h hl hh
  have hpop := completes_popQq hl hh
  have haf : Completes .popAf s (((s.setSp (s.cpu.sp + 2)).setReg .a h).setFlags (Flags.ofByte l)) 12 :=
    State.setAf_mkWord _ h l ▸ hpop .af
  refine ⟨encode_popQq, State.setBc_mkWord _ h l ▸ hpop .bc, State.setDe_mkWord _ h l ▸ hpop .de,
    State.setHl_mkWord _ h l ▸ hpop .hl, haf, fun t ht => ?_⟩
  obtain ⟨hexec, -⟩ := haf
  cases hexec.symm.trans ht
  exact Flags.toByte_ofByte l

end Sys2Proof.Machine
end

section
/-! PROOFS. The operations on A and a second operand in their three forms: sums (O28), differences and comparisons (O29),
bitwise logic (O30). -/

namespace Sys2Proof.Machine

/-! ## Encodings, counts and forms (rule R150) -/

theorem encode_aluR8 (op : AluOp) (r : R8) : encode (.aluR8 op r) = [0x80 + 8 * op.code + r.code] := by
  rcases r with (_ | _ | _ | _ | _ | _ | _) | _ <;> cases op <;> rfl

theorem encode_aluD8 (op : AluOp) (v : Byte) : encode (.aluD8 op v) = [0xC6 + 8 * op.code, v] := by cases op <;> rfl

theorem costOf_aluR8_reg (op : AluOp) (r : Reg) (f : Flags) : costOf Config.default (.aluR8 op (.reg r)) f = 4 := by
  cases r <;> cases op <;> rfl

theorem costOf_aluR8_mem (op : AluOp) (f : Flags) : costOf Config.default (.aluR8 op .memHl) f = 8 := by cases op <;> rfl

theorem costOf_aluD8 (op : AluOp) (v : Byte) (f : Flags) : costOf Config.default (.aluD8 op v) f = 8 := by cases op <;> rfl

/-- An operation on the byte at HL, when that byte answers. -/
theorem withOperand_memHl {op : Byte → State → State} {s : State} {v : Byte} (h : busRead s s.hl = .ok v) :
    withOperand op .memHl s = .ok (op v s) := by
  simp only [withOperand, readR8, h]

/-- Whatever the form, the instruction completes with the operation on A and the second operand. -/
theorem AluForm.completes {op : AluOp} {s : State} {i : Instr} {v : Byte} {n : Nat} (h : AluForm op s i v n) :
    Completes i s (aluA op v s) n := by
  cases h with
  | register r => exact .of_finish (exec_aluR8 s op (.reg r)) rfl (costOf_aluR8_reg op r _)
  | memory hread => exact .of_finish (exec_aluR8 s op .memHl) (withOperand_memHl hread) (costOf_aluR8_mem op _)
  | immediate => exact ⟨exec_aluD8 s op v, costOf_aluD8 op v _⟩

/-! ## Sums (rules R151, R152) -/

theorem carryIn_eq_toNat (c : Bool) : carryIn c = c.toNat := by cases c <;> rfl

/-- A number cut to a byte is 0 when 256 divides it (rule R6). -/
theorem ofNat_byte_eq_zero_iff (n : Nat) : (BitVec.ofNat 8 n : Byte) = 0 ↔ n % 256 = 0 := by
  rw [← BitVec.toNat_inj, BitVec.toNat_ofNat]
  rfl

/-- The sum and its flags, with the carry as a number and Z by the sum itself. -/
theorem add8_eq (a v : Byte) (c : Bool) :
    add8 a v c = (BitVec.ofNat 8 (a.toNat + v.toNat + c.toNat),
      { z := decide ((a.toNat + v.toNat + c.toNat) % 256 = 0), n := false,
        h := decide (a.toNat % 16 + v.toNat % 16 + c.toNat > 0x0F),
        c := decide (a.toNat + v.toNat + c.toNat > 0xFF) }) := by
  simp only [add8, low4, carryIn_eq_toNat, ofNat_byte_eq_zero_iff]

/-- Settles O28: every form is `aluA`, whose sum is `add8`; ADD has the carry 0 in. -/
theorem addWithCarry : Obligations.AddWithCarry := by
  refine ⟨encode_aluR8, encode_aluD8, fun s i v n => ⟨fun h => ?_, fun h => ?_⟩⟩
  · have hform : Completes i s (setAFlags (add8 s.cpu.a v false) s) n := h.completes
    rw [add8_eq] at hform
    exact hform
  · have hform : Completes i s (setAFlags (add8 s.cpu.a v s.cpu.flags.c) s) n := h.completes
    rw [add8_eq] at hform
    exact hform

/-! ## Differences (rules R153, R154, R158) -/

/-- Cutting a difference of integers to a byte is subtracting the bytes (rule R6). -/
theorem ofInt_byte_sub (x y : Int) : BitVec.ofInt 8 (x - y) = BitVec.ofInt 8 x - BitVec.ofInt 8 y := Int.cast_sub x y

/-- Taking a number from a byte is the difference of integers modulo 256 (rule R6). -/
theorem sub_ofNat_eq_ofInt (a : Byte) (n : Nat) : a - BitVec.ofNat 8 n = BitVec.ofInt 8 (a.toNat - n) := by
  rw [ofInt_byte_sub, BitVec.ofInt_natCast, BitVec.ofInt_natCast, BitVec.ofNat_toNat, BitVec.setWidth_eq]

/-- The difference of two bytes is that of their numbers modulo 256. -/
theorem sub_eq_ofInt (a v : Byte) : a - v = BitVec.ofInt 8 (a.toNat - v.toNat) := by
  rw [← sub_ofNat_eq_ofInt, BitVec.ofNat_toNat, BitVec.setWidth_eq]

/-- The difference and its flags, on integers. -/
theorem sub8_eq (a v : Byte) (c : Bool) :
    sub8 a v c = (BitVec.ofInt 8 (a.toNat - v.toNat - c.toNat),
      { z := decide (BitVec.ofInt 8 (a.toNat - v.toNat - c.toNat) = 0), n := true,
        h := decide (a.toNat % 16 < v.toNat % 16 + c.toNat),
        c := decide (a.toNat < v.toNat + c.toNat) }) := by
  have hdiff : a - v - BitVec.ofNat 8 c.toNat = BitVec.ofInt 8 (a.toNat - v.toNat - c.toNat) := by
    rw [ofInt_byte_sub, BitVec.ofInt_natCast, ← sub_eq_ofInt]
  simp only [sub8, low4, carryIn_eq_toNat, hdiff]

/-- Without a borrow in, the difference is 0 when the bytes are equal. -/
theorem sub8_false_eq (a v : Byte) :
    sub8 a v false = (BitVec.ofInt 8 (a.toNat - v.toNat),
      { z := decide (a = v), n := true, h := decide (a.toNat % 16 < v.toNat % 16), c := decide (a.toNat < v.toNat) }) := by
  have hzero : BitVec.ofInt 8 (a.toNat - v.toNat) = 0 ↔ a = v := by
    rw [← sub_eq_ofInt]
    exact sub_eq_zero
  simp only [sub8_eq, Bool.toNat_false, Nat.cast_zero, Nat.add_zero, sub_zero, hzero]

/-- Settles O29: every form is `aluA`, whose difference is `sub8`; CP drops it. -/
theorem subtractAndCompare : Obligations.SubtractAndCompare := by
  refine ⟨fun r => ⟨encode_aluR8 .sub r, encode_aluR8 .sbc r, encode_aluR8 .cp r⟩,
    fun v => ⟨encode_aluD8 .sub v, encode_aluD8 .sbc v, encode_aluD8 .cp v⟩,
    fun s i v n => ⟨fun h => ?_, fun h => ?_, fun h => ?_⟩⟩
  · have hform : Completes i s (setAFlags (sub8 s.cpu.a v false) s) n := h.completes
    rw [sub8_false_eq] at hform
    exact hform
  · have hform : Completes i s (s.setFlags (sub8 s.cpu.a v false).2) n := h.completes
    rw [sub8_false_eq] at hform
    exact hform
  · have hform : Completes i s (setAFlags (sub8 s.cpu.a v s.cpu.flags.c) s) n := h.completes
    rw [sub8_eq] at hform
    exact hform

/-! ## Bitwise logic (rules R155 to R157) -/

/-- Settles O30: every form is `aluA`, whose results are the statement's. -/
theorem bitwiseLogic : Obligations.BitwiseLogic :=
  ⟨fun r => ⟨encode_aluR8 .and r, encode_aluR8 .xor r, encode_aluR8 .or r⟩,
    fun v => ⟨encode_aluD8 .and v, encode_aluD8 .xor v, encode_aluD8 .or v⟩,
    fun _ _ _ _ => ⟨fun h => h.completes, fun h => h.completes, fun h => h.completes⟩⟩

end Sys2Proof.Machine
end

section
/-! PROOFS. The operations on one byte: INC and DEC (O31), CPL, SCF and CCF (O34), DAA (O32), and DAA after a sum or a
difference of decimal digits (O33). -/

namespace Sys2Proof.Machine

/-! ## INC and DEC (rules R159 to R162) -/

theorem encode_incR8_reg (r : Reg) : encode (.incR8 (.reg r)) = [0x04 + 8 * r.code] := by cases r <;> rfl

theorem encode_decR8_reg (r : Reg) : encode (.decR8 (.reg r)) = [0x05 + 8 * r.code] := by cases r <;> rfl

theorem costOf_incR8_reg (r : Reg) (f : Flags) : costOf Config.default (.incR8 (.reg r)) f = 4 := by cases r <;> rfl

theorem costOf_decR8_reg (r : Reg) (f : Flags) : costOf Config.default (.decR8 (.reg r)) f = 4 := by cases r <;> rfl

/-- A byte and a number, added, are the sum of numbers cut to a byte (rule R6). -/
theorem add_ofNat_eq_ofNat (v : Byte) (n : Nat) : v + BitVec.ofNat 8 n = BitVec.ofNat 8 (v.toNat + n) := by
  rw [BitVec.ofNat_add, BitVec.ofNat_toNat, BitVec.setWidth_eq]

theorem inc8_eq (v : Byte) (f : Flags) :
    inc8 v f = (BitVec.ofNat 8 (v.toNat + 1), ⟨decide (v = 0xFF), false, decide (v.toNat % 16 = 0x0F), f.c⟩) := by
  have hsum : v + 1 = BitVec.ofNat 8 (v.toNat + 1) := add_ofNat_eq_ofNat v 1
  have hzero : v + 1 = 0 ↔ v = 0xFF := add_eq_zero_iff_eq_neg
  rw [inc8, low4, decide_eq_decide.2 hzero, hsum]

theorem dec8_eq (v : Byte) (f : Flags) :
    dec8 v f = (BitVec.ofNat 8 (v.toNat + 0xFF), ⟨decide (v = 0x01), true, decide (v.toNat % 16 = 0x00), f.c⟩) := by
  have hsum : v - 1 = BitVec.ofNat 8 (v.toNat + 0xFF) := (sub_eq_add_neg v 1).trans (add_ofNat_eq_ofNat v 0xFF)
  have hzero : v - 1 = 0 ↔ v = 0x01 := sub_eq_zero
  rw [dec8, low4, decide_eq_decide.2 hzero, hsum]

/-- An instruction that changes the byte at HL reads it once, stores the new byte at the same address, and then writes the
flags (rule R65). -/
theorem StoresByte.of_modifyOperand {i : Instr} {s : State} {op : Byte → Flags → Byte × Flags} {v w : Byte} {f : Flags}
    {n : Nat} (hop : op v s.cpu.flags = (w, f)) (hread : busRead s s.hl = .ok v) (hok : storeOk s.hl w = true)
    (hexec : exec i s = finish (costOf s.cfg i s.cpu.flags) (modifyOperand op .memHl s))
    (hcost : costOf Config.default i s.cpu.flags = n) : StoresByte i s s.hl w n fun t => t.setFlags f := by
  refine .of_finish hok hexec (fun t ht => ?_) (fun _ _ => rfl) hcost
  simp only [modifyOperand, readR8, hread, writeR8, hop, ht]

/-- Settles O31: the meaning is `modifyOperand` of `inc8` or `dec8`. -/
theorem incrementDecrement : Obligations.IncrementDecrement := by
  intro s r v
  refine ⟨⟨encode_incR8_reg r, encode_decR8_reg r, rfl, rfl⟩, ?_, ?_, fun hread hok => ?_, fun hread hok => ?_⟩
  · refine .of_finish (exec_incR8 s (.reg r)) ?_ (costOf_incR8_reg r _)
    rw [modifyOperand_reg, inc8_eq]
  · refine .of_finish (exec_decR8 s (.reg r)) ?_ (costOf_decR8_reg r _)
    rw [modifyOperand_reg, dec8_eq]
  · exact .of_modifyOperand (inc8_eq v _) hread hok (exec_incR8 s .memHl) rfl
  · exact .of_modifyOperand (dec8_eq v _) hread hok (exec_decR8 s .memHl) rfl

/-! ## CPL, SCF and CCF (rules R164 to R166) -/

/-- The complement is the exclusive or with 0xFF. -/
theorem cpl8_eq (a : Byte) (f : Flags) : cpl8 a f = (~~~a, ⟨f.z, true, true, f.c⟩) := by
  rw [cpl8, show a ^^^ 0xFF = ~~~a from BitVec.xor_allOnes]

/-- Settles O34: CPL is `cpl8` on A, the other two write the flags alone. -/
theorem complementAndCarry : Obligations.ComplementAndCarry := by
  intro s
  have hcpl : modifyOperand cpl8 (.reg .a) s =
      .ok ((s.setReg .a (~~~s.cpu.a)).setFlags ⟨s.cpu.flags.z, true, true, s.cpu.flags.c⟩) := by
    rw [modifyOperand_reg, cpl8_eq]
    rfl
  exact ⟨⟨rfl, .of_finish rfl hcpl rfl⟩, ⟨rfl, .of_finish rfl rfl rfl⟩, rfl, .of_finish rfl rfl rfl⟩

/-! ## DAA (rule R163) -/

/-- The half-carry, or after an addition a low digit above 9, calls for the correction by 0x06. -/
def daaLow (a : Nat) (f : Flags) : Bool := f.h || (!f.n && decide (a % 16 > 9))

/-- The carry, or after an addition a value above 0x99, calls for the correction by 0x60. -/
def daaHigh (a : Nat) (f : Flags) : Bool := f.c || (!f.n && decide (a > 0x99))

/-- The number DAA adds or subtracts. -/
def daaCorrection (a : Nat) (f : Flags) : Nat :=
  (if daaLow a f then 0x06 else 0) + (if daaHigh a f then 0x60 else 0)

/-- The two corrections share no bit, so that joining them adds them. -/
theorem corrections_or (low high : Bool) :
    ((if low then 0x06 else 0) ||| (if high then 0x60 else 0) : Byte) =
      BitVec.ofNat 8 ((if low then 0x06 else 0) + (if high then 0x60 else 0)) := by
  cases low <;> cases high <;> rfl

/-- What DAA leaves in A. -/
def daaResult (a : Byte) (f : Flags) : Byte :=
  if f.n then BitVec.ofInt 8 (a.toNat - daaCorrection a.toNat f) else BitVec.ofNat 8 (a.toNat + daaCorrection a.toNat f)

/-- After a subtraction the half-carry and the carry alone call for the corrections. -/
theorem daa_tests_of_sub (a : Byte) {f : Flags} (hn : f.n = true) :
    daaLow a.toNat f = f.h ∧ daaHigh a.toNat f = f.c := by
  simp only [daaLow, daaHigh, hn, Bool.not_true, Bool.false_and, Bool.or_false, and_self]

/-- After an addition the digits call for them as well. -/
theorem daa_tests_of_add (a : Byte) {f : Flags} (hn : f.n = false) :
    daaLow a.toNat f = (f.h || decide (low4 a > 0x09)) ∧ daaHigh a.toNat f = (f.c || decide (a.toNat > 0x99)) := by
  rw [daaLow, daaHigh, hn]
  exact ⟨rfl, rfl⟩

theorem daa8_eq (a : Byte) (f : Flags) :
    daa8 a f = (daaResult a f, ⟨decide (daaResult a f = 0), f.n, false, daaHigh a.toNat f⟩) := by
  cases hn : f.n with
  | true =>
    obtain ⟨hlow, hhigh⟩ := daa_tests_of_sub a hn
    simp only [daa8, daaResult, daaCorrection, hn, if_true, corrections_or, sub_ofNat_eq_ofInt, hlow, hhigh]
  | false =>
    obtain ⟨hlow, hhigh⟩ := daa_tests_of_add a hn
    simp only [daa8, daaResult, daaCorrection, hn, Bool.false_eq_true, if_false, corrections_or, add_ofNat_eq_ofNat, hlow,
      hhigh]

/-- DAA completes with A corrected. -/
theorem completes_daa (s : State) :
    Completes .daa s ((s.setReg .a (daa8 s.cpu.a s.cpu.flags).1).setFlags (daa8 s.cpu.a s.cpu.flags).2) 4 :=
  .of_finish rfl (modifyOperand_reg daa8 .a s) rfl

/-- Settles O32: the meaning is `daa8` on A. -/
theorem decimalAdjust : Obligations.DecimalAdjust := by
  intro s
  have hdaa := completes_daa s
  rw [daa8_eq] at hdaa
  exact ⟨rfl, hdaa⟩

/-! ## DAA after a decimal sum or difference (rules R151, R153, R163) -/

/-- A number below 100 in packed decimal: a digit in each nibble. -/
def packed (x : Nat) : Byte := BitVec.ofNat 8 (16 * (x / 10) + x % 10)

theorem packed_toNat {x : Nat} (hx : x < 100) : (packed x).toNat = 16 * (x / 10) + x % 10 := by
  rw [packed, BitVec.toNat_ofNat]
  omega

theorem packed_mod_hundred (n : Nat) : packed (n % 100) = BitVec.ofNat 8 (16 * (n % 100 / 10) + n % 10) := by
  rw [packed, Nat.mod_mod_of_dvd n (by decide)]

/-- Counting the tens by 16 exceeds 0x99 when counting them by 10 reaches 100, as long as the ones carry no second ten. -/
theorem sixteens_gt_iff {m k : Nat} (hk : k < 20) : 16 * m + k > 0x99 ↔ 100 ≤ 10 * m + k := by omega

/-- After an addition of packed numbers DAA corrects the low digit when the low digits come to 10 or more, the high digit
when the numbers come to 100 or more, and what it leaves is the packed sum. -/
theorem daa8_add8_packed {x y : Nat} (hx : x < 100) (hy : y < 100) :
    let r := add8 (packed x) (packed y) false
    (daa8 r.1 r.2).1 = packed ((x + y) % 100) ∧ (daa8 r.1 r.2).2.c = decide (100 ≤ x + y) := by
  intro r
  have hr : r = _ := add8_eq (packed x) (packed y) false
  simp only [packed_toNat hx, packed_toNat hy, Bool.toNat_false, Nat.add_zero] at hr
  have hw : r.1.toNat = (16 * (x / 10) + x % 10 + (16 * (y / 10) + y % 10)) % 256 := by rw [hr, BitVec.toNat_ofNat]
  have hn : r.2.n = false := by rw [hr]
  obtain ⟨hlow, hhigh⟩ := daa_tests_of_add r.1 hn
  have hlow : daaLow r.1.toNat r.2 = decide (10 ≤ x % 10 + y % 10) := by
    rw [hlow, low4, hw, hr, ← Bool.decide_or]
    exact decide_eq_decide.2 (by omega)
  have hhigh : daaHigh r.1.toNat r.2 = decide (100 ≤ x + y) := by
    rw [hhigh, hw, hr, ← Bool.decide_or]
    refine decide_eq_decide.2 ?_
    have hcarry := sixteens_gt_iff (m := x / 10 + y / 10) (k := x % 10 + y % 10) (by omega)
    omega
  rw [daa8_eq, daaResult, hn, daaCorrection, hlow, hhigh, hw]
  refine ⟨BitVec.eq_of_toNat_eq ?_, rfl⟩
  rw [packed_toNat (Nat.mod_lt _ (by decide))]
  simp only [Bool.false_eq_true, if_false, decide_eq_true_eq, BitVec.toNat_ofNat]
  split <;> split <;> omega

/-- After a subtraction of packed numbers DAA corrects each digit that borrowed, and what it leaves is the packed
difference. -/
theorem daa8_sub8_packed {x y : Nat} (hx : x < 100) (hy : y < 100) :
    let r := sub8 (packed x) (packed y) false
    (daa8 r.1 r.2).1 = packed ((x + 100 - y) % 100) ∧ (daa8 r.1 r.2).2.c = decide (x < y) := by
  intro r
  have hr : r = _ := sub8_false_eq (packed x) (packed y)
  rw [← sub_eq_ofInt] at hr
  have hw : r.1 = packed x - packed y := by rw [hr]
  have hn : r.2.n = true := by rw [hr]
  obtain ⟨hlow, hhigh⟩ := daa_tests_of_sub r.1 hn
  have hlow : daaLow r.1.toNat r.2 = decide (x % 10 < y % 10) := by
    rw [hlow, hr, packed_toNat hx, packed_toNat hy]
    exact decide_eq_decide.2 (by omega)
  have hhigh : daaHigh r.1.toNat r.2 = decide (x < y) := by
    rw [hhigh, hr, packed_toNat hx, packed_toNat hy]
    exact decide_eq_decide.2 (by omega)
  rw [daa8_eq, daaResult, hn, if_pos rfl, ← sub_ofNat_eq_ofInt, daaCorrection, hlow, hhigh, hw]
  refine ⟨BitVec.eq_of_toNat_eq ?_, rfl⟩
  rw [packed_toNat (Nat.mod_lt _ (by decide))]
  simp only [decide_eq_true_eq, BitVec.toNat_sub, BitVec.toNat_ofNat, packed_toNat hx, packed_toNat hy]
  split <;> split <;> omega

/-- Settles O33: `daa8` after `add8` and after `sub8`. -/
theorem decimalAdjustIsDecimal : Obligations.DecimalAdjustIsDecimal := by
  intro s x y hx hy ha d
  have ha : s.cpu.a = packed x := ha
  obtain ⟨hsum, hcarry⟩ := daa8_add8_packed hx hy
  obtain ⟨hdiff, hborrow⟩ := daa8_sub8_packed hx hy
  rw [← ha] at hsum hcarry hdiff hborrow
  rw [packed_mod_hundred] at hsum hdiff
  exact ⟨⟨_, _, exec_aluD8 s .add d, (completes_daa _).1, hsum, hcarry⟩,
    ⟨_, _, exec_aluD8 s .sub d, (completes_daa _).1, hdiff, hborrow⟩⟩

end Sys2Proof.Machine
end

section
/-! PROOFS. The flags: what every meaning leaves of each of the four, against the summary of rule R150 (O12). -/

namespace Sys2Proof.Machine

/-! ## What the shared operations leave of the flags -/

theorem busWrite_flags {s t : State} {a : Word} {v : Byte} (h : busWrite s a v = .ok t) : t.cpu.flags = s.cpu.flags := by
  rw [(busWrite_inv h).1.cpu]

theorem busWrite16_flags {s t : State} {a w : Word} (h : busWrite16 s a w = .ok t) : t.cpu.flags = s.cpu.flags := by
  obtain ⟨u, hlow, hhigh⟩ := busWrite16_inv h
  rw [busWrite_flags hhigh, busWrite_flags hlow]

theorem push16_flags {w : Word} {s t : State} (h : push16 w s = .ok t) : t.cpu.flags = s.cpu.flags := by rw [push16_cpu h]

theorem callTo_flags {w : Word} {s t : State} (h : callTo w s = .ok t) : t.cpu.flags = s.cpu.flags := by
  obtain ⟨u, hu, rfl⟩ := callTo_inv h
  rw [State.setPc_cpu_flags, push16_flags hu]

theorem returnTo_flags {s t : State} (h : returnTo s = .ok t) : t.cpu.flags = s.cpu.flags := by
  obtain ⟨l, b, -, -, rfl⟩ := returnTo_inv h
  rfl

theorem returnFromInterrupt_flags {s t : State} (h : returnFromInterrupt s = .ok t) : t.cpu.flags = s.cpu.flags := by
  obtain ⟨u, hu, rfl⟩ := returnFromInterrupt_inv h
  rw [State.setIme_cpu_flags, returnTo_flags hu]

/-- A pop into any pair but AF (rule R145). -/
theorem popTo_flags {q : QQ} (hq : q ≠ .af) {s t : State} (h : popTo q s = .ok t) : t.cpu.flags = s.cpu.flags := by
  obtain ⟨l, b, -, -, rfl⟩ := popTo_inv h
  cases q with
  | af => exact absurd rfl hq
  | _ => rfl

theorem writeR8_flags {s t : State} {r : R8} {v : Byte} (h : writeR8 s r v = .ok t) : t.cpu.flags = s.cpu.flags := by
  cases r with
  | reg r => cases h; exact s.setReg_cpu_flags r v
  | memHl => exact busWrite_flags h

theorem move_flags {d q : R8} {s t : State} (h : move d q s = .ok t) : t.cpu.flags = s.cpu.flags := by
  obtain ⟨v, -, hw⟩ := move_inv h
  exact writeR8_flags hw

theorem loadA_flags {a : Word} {s t : State} (h : loadA a s = .ok t) : t.cpu.flags = s.cpu.flags := by
  obtain ⟨v, -, rfl⟩ := loadA_inv h
  rfl

/-- An access through HL and then the step of HL (rules R125 to R128). -/
theorem thenStepHl_flags {r : Except Fault State} {d : Word} {s t : State} (h : thenSet r (stepHl d) = .ok t)
    (hr : ∀ u, r = .ok u → u.cpu.flags = s.cpu.flags) : t.cpu.flags = s.cpu.flags := by
  obtain ⟨u, hu, rfl⟩ := thenSet_inv h
  exact hr u hu

/-- A transfer that happens when its condition holds. -/
theorem ite_flags {p : Bool} {r : Except Fault State} {s t : State} (h : (if p then r else .ok s) = .ok t)
    (hr : ∀ u, r = .ok u → u.cpu.flags = s.cpu.flags) : t.cpu.flags = s.cpu.flags := by
  cases p with
  | true => exact hr t h
  | false => cases h; rfl

theorem setRr_flags (s : State) (r : RR) (w : Word) : (s.setRr r w).cpu.flags = s.cpu.flags := by cases r <;> rfl

/-! ## What a summary line allows -/

/-- The effects of a line of the summary: on Z, N, H and C. -/
abbrev FlagLine := FlagEffect × FlagEffect × FlagEffect × FlagEffect

/-- The last line of the summary: every flag is unchanged. -/
def FlagLine.keepsAll : FlagLine := (.kept, .kept, .kept, .kept)

/-- The line allows the flags `g` after the flags `f`. -/
def FlagLine.Allows (e : FlagLine) (f g : Flags) : Prop :=
  e.1.Allows f.z g.z ∧ e.2.1.Allows f.n g.n ∧ e.2.2.1.Allows f.h g.h ∧ e.2.2.2.Allows f.c g.c

theorem FlagLine.keepsAll_allows {f g : Flags} (h : g = f) : keepsAll.Allows f g := by
  subst h
  exact ⟨rfl, rfl, rfl, rfl⟩

/-- The instruction leaves the flags as its line of the summary says. -/
def FollowsSummary (i : Instr) : Prop :=
  ∀ s t : State, exec i s = .next t → FlagLine.Allows (flagEffects i) s.cpu.flags t.cpu.flags

/-- The line of an instruction decides about its body alone: the count is not a flag. -/
theorem FollowsSummary.of_body {i : Instr} {e : FlagLine} {body : State → Except Fault State}
    (hexec : ∀ s, exec i s = finish (costOf s.cfg i s.cpu.flags) (body s)) (heff : flagEffects i = e)
    (hbody : ∀ s u, body s = .ok u → e.Allows s.cpu.flags u.cpu.flags) : FollowsSummary i := by
  intro s t h
  rw [hexec] at h
  obtain ⟨u, hu, rfl⟩ := finish_next_iff.1 h
  exact heff ▸ hbody s u hu

/-- An instruction of the last line. -/
theorem FollowsSummary.of_keeps {i : Instr} {body : State → Except Fault State}
    (hexec : ∀ s, exec i s = finish (costOf s.cfg i s.cpu.flags) (body s)) (heff : flagEffects i = FlagLine.keepsAll)
    (hbody : ∀ s u, body s = .ok u → u.cpu.flags = s.cpu.flags) : FollowsSummary i :=
  .of_body hexec heff fun s u hu => FlagLine.keepsAll_allows (hbody s u hu)

/-- An instruction that computes the new flags from its operand and the old flags. -/
theorem FollowsSummary.of_modifyOperand {i : Instr} {e : FlagLine} {op : Byte → Flags → Byte × Flags} {r : R8}
    (hexec : ∀ s, exec i s = finish (costOf s.cfg i s.cpu.flags) (modifyOperand op r s)) (heff : flagEffects i = e)
    (hop : ∀ v f, e.Allows f (op v f).2) : FollowsSummary i := by
  refine .of_body hexec heff fun s u hu => ?_
  obtain ⟨v, w, -, -, rfl⟩ := modifyOperand_inv hu
  exact hop v s.cpu.flags

/-- An instruction that does with its operand something to registers and flags. -/
theorem FollowsSummary.of_withOperand {i : Instr} {e : FlagLine} {op : Byte → State → State} {r : R8}
    (hexec : ∀ s, exec i s = finish (costOf s.cfg i s.cpu.flags) (withOperand op r s)) (heff : flagEffects i = e)
    (hop : ∀ v s, e.Allows s.cpu.flags (op v s).cpu.flags) : FollowsSummary i := by
  refine .of_body hexec heff fun s u hu => ?_
  obtain ⟨v, -, rfl⟩ := withOperand_inv hu
  exact hop v s

/-- An instruction that accesses no memory. -/
theorem FollowsSummary.of_next {i : Instr} {e : FlagLine} {f : State → State}
    (hexec : ∀ s, exec i s = .next ((f s).setCycles (costOf s.cfg i s.cpu.flags))) (heff : flagEffects i = e)
    (hf : ∀ s, e.Allows s.cpu.flags (f s).cpu.flags) : FollowsSummary i :=
  .of_body (body := fun s => .ok (f s)) hexec heff fun s _ hu => by cases hu; exact hf s

/-! ## The lines of the families -/

/-- The line of an operation on A and a second operand. -/
def aluLine : AluOp → FlagLine
  | .add | .adc => (.computed, .zero, .computed, .computed)
  | .sub | .sbc | .cp => (.computed, .one, .computed, .computed)
  | .and => (.computed, .zero, .one, .zero)
  | .xor | .or => (.computed, .zero, .zero, .zero)

theorem flagEffects_aluR8 (op : AluOp) (r : R8) : flagEffects (.aluR8 op r) = aluLine op := by
  rcases r with (_ | _ | _ | _ | _ | _ | _) | _ <;> cases op <;> rfl

theorem flagEffects_aluD8 (op : AluOp) (v : Byte) : flagEffects (.aluD8 op v) = aluLine op := by cases op <;> rfl

theorem aluLine_allows (op : AluOp) (v : Byte) (s : State) :
    (aluLine op).Allows s.cpu.flags (aluA op v s).cpu.flags := by
  cases op with
  | add | adc | sub | sbc | cp => exact ⟨trivial, rfl, trivial, trivial⟩
  | and | xor | or => exact ⟨trivial, rfl, rfl, rfl⟩

/-- The line of a prefixed rotate or shift. -/
def rotLine : RotOp → FlagLine
  | .swap => (.computed, .zero, .zero, .zero)
  | _ => (.computed, .zero, .zero, .computed)

theorem flagEffects_rotR8 (op : RotOp) (r : R8) : flagEffects (.rotR8 op r) = rotLine op := by
  rcases r with (_ | _ | _ | _ | _ | _ | _) | _ <;> cases op <;> rfl

theorem rotLine_allows (op : RotOp) (v : Byte) (f : Flags) : (rotLine op).Allows f (rot8 op v f).2 := by
  cases op with
  | swap => exact ⟨trivial, rfl, rfl, rfl⟩
  | _ => exact ⟨trivial, rfl, rfl, trivial⟩

theorem flagEffects_ldR8R8 {d q : R8} (h : ¬(d = .memHl ∧ q = .memHl)) : flagEffects (.ldR8R8 d q) = FlagLine.keepsAll := by
  rcases d with x | _ <;> rcases q with y | _
  · cases x <;> cases y <;> rfl
  · cases x <;> rfl
  · cases y <;> rfl
  · exact absurd ⟨rfl, rfl⟩ h

theorem flagEffects_ldR8D8 (d : R8) (v : Byte) : flagEffects (.ldR8D8 d v) = FlagLine.keepsAll := by
  rcases d with (_ | _ | _ | _ | _ | _ | _) | _ <;> rfl

theorem flagEffects_incR8 (r : R8) : flagEffects (.incR8 r) = (.computed, .zero, .computed, .kept) := by
  rcases r with (_ | _ | _ | _ | _ | _ | _) | _ <;> rfl

theorem flagEffects_decR8 (r : R8) : flagEffects (.decR8 r) = (.computed, .one, .computed, .kept) := by
  rcases r with (_ | _ | _ | _ | _ | _ | _) | _ <;> rfl

theorem flagEffects_bitR8 (b : Oct) (r : R8) : flagEffects (.bitR8 b r) = (.computed, .zero, .one, .kept) := by
  rcases r with (_ | _ | _ | _ | _ | _ | _) | _ <;> cases b <;> rfl

theorem flagEffects_resR8 (b : Oct) (r : R8) : flagEffects (.resR8 b r) = FlagLine.keepsAll := by
  rcases r with (_ | _ | _ | _ | _ | _ | _) | _ <;> cases b <;> rfl

theorem flagEffects_setR8 (b : Oct) (r : R8) : flagEffects (.setR8 b r) = FlagLine.keepsAll := by
  rcases r with (_ | _ | _ | _ | _ | _ | _) | _ <;> cases b <;> rfl

theorem flagEffects_addHlRr (r : RR) : flagEffects (.addHlRr r) = (.kept, .zero, .computed, .computed) := by
  cases r <;> rfl

/-! ## Every instruction -/

/-- POP AF takes all four flags from the stack; the other pairs keep them (rules R145, R146). -/
theorem followsSummary_popQq (q : QQ) : FollowsSummary (.popQq q) := by
  cases q with
  | af => exact fun s t _ => ⟨trivial, trivial, trivial, trivial⟩
  | _ => exact .of_keeps (exec_popQq · _) rfl fun _ _ => popTo_flags (by decide)

/-- A rotate of A in its one-byte form clears Z (rules R180 to R183). -/
theorem followsSummary_accForm {i : Instr} (op : RotOp)
    (hexec : ∀ s, exec i s = finish (costOf s.cfg i s.cpu.flags) (modifyOperand (accForm (rot8 op)) (.reg .a) s))
    (heff : flagEffects i = (.zero, .zero, .zero, .computed)) : FollowsSummary i :=
  .of_modifyOperand hexec heff fun _ _ => by cases op <;> exact ⟨rfl, rfl, rfl, trivial⟩

/-- Every instruction, by its family's equation or its own arm. -/
theorem followsSummary (i : Instr) : FollowsSummary i := by
  revert i
  apply Instr.families
  case ldR8R8 => exact fun d q h => .of_keeps (exec_ldR8R8 · h) (flagEffects_ldR8R8 h) fun _ _ => move_flags
  case ldR8D8 => exact fun d v => .of_keeps (exec_ldR8D8 · d v) (flagEffects_ldR8D8 d v) fun _ _ => writeR8_flags
  case incR8 =>
    exact fun r => .of_modifyOperand (exec_incR8 · r) (flagEffects_incR8 r) fun _ _ => ⟨trivial, rfl, trivial, rfl⟩
  case decR8 =>
    exact fun r => .of_modifyOperand (exec_decR8 · r) (flagEffects_decR8 r) fun _ _ => ⟨trivial, rfl, trivial, rfl⟩
  case aluR8 => exact fun op r => .of_withOperand (exec_aluR8 · op r) (flagEffects_aluR8 op r) (aluLine_allows op)
  case aluD8 => exact fun op v => .of_next (exec_aluD8 · op v) (flagEffects_aluD8 op v) (aluLine_allows op v)
  case rotR8 => exact fun op r => .of_modifyOperand (exec_rotR8 · op r) (flagEffects_rotR8 op r) (rotLine_allows op)
  case bitR8 =>
    exact fun b r => .of_withOperand (exec_bitR8 · b r) (flagEffects_bitR8 b r) fun _ _ => ⟨trivial, rfl, rfl, rfl⟩
  case resR8 =>
    exact fun b r => .of_modifyOperand (exec_resR8 · b r) (flagEffects_resR8 b r) fun _ _ => ⟨rfl, rfl, rfl, rfl⟩
  case setR8 =>
    exact fun b r => .of_modifyOperand (exec_setR8 · b r) (flagEffects_setR8 b r) fun _ _ => ⟨rfl, rfl, rfl, rfl⟩
  case addHlRr =>
    exact fun r => .of_next (exec_addHlRr · r) (flagEffects_addHlRr r) fun _ => ⟨rfl, rfl, trivial, trivial⟩
  case ldRrD16 =>
    exact fun r w => .of_next (exec_ldRrD16 · r w) (by cases r <;> rfl) fun s =>
      FlagLine.keepsAll_allows (setRr_flags s r w)
  case incRr =>
    exact fun r => .of_next (exec_incRr · r) (by cases r <;> rfl) fun s => FlagLine.keepsAll_allows (setRr_flags s r _)
  case decRr =>
    exact fun r => .of_next (exec_decRr · r) (by cases r <;> rfl) fun s => FlagLine.keepsAll_allows (setRr_flags s r _)
  case pushQq => exact fun q => .of_keeps (exec_pushQq · q) (by cases q <;> rfl) fun _ _ => push16_flags
  case popQq => exact followsSummary_popQq
  case jrCc =>
    exact fun cc e => .of_keeps (exec_jrCc · cc e) (by cases cc <;> rfl) fun _ _ h =>
      ite_flags h fun _ hu => by cases hu; rfl
  case jpCc =>
    exact fun cc w => .of_keeps (exec_jpCc · cc w) (by cases cc <;> rfl) fun _ _ h =>
      ite_flags h fun _ hu => by cases hu; rfl
  case callCc =>
    exact fun cc w => .of_keeps (exec_callCc · cc w) (by cases cc <;> rfl) fun _ _ h => ite_flags h fun _ => callTo_flags
  case retCc =>
    exact fun cc => .of_keeps (exec_retCc · cc) (by cases cc <;> rfl) fun _ _ h => ite_flags h fun _ => returnTo_flags
  case rst => exact fun k => .of_keeps (exec_rst · k) (by cases k <;> rfl) fun _ _ => callTo_flags
  case stop => exact fun _ _ _ h => nomatch h
  case unrecognized => intro i hi s t ht; cases i <;> cases hi <;> cases ht <;> exact ⟨rfl, rfl, rfl, rfl⟩
  case ldMemA16Sp => exact fun a => .of_keeps (fun _ => rfl) rfl fun _ _ => busWrite16_flags
  case ldMemBcA | ldMemDeA | ldMemCA => exact .of_keeps (fun _ => rfl) rfl fun _ _ => busWrite_flags
  case ldMemA16A | ldhMemA8A => exact fun a => .of_keeps (fun _ => rfl) rfl fun _ _ => busWrite_flags
  case ldMemHlIncA | ldMemHlDecA =>
    exact .of_keeps (fun _ => rfl) rfl fun _ _ h => thenStepHl_flags h fun _ => busWrite_flags
  case ldAMemBc | ldAMemDe | ldAMemC => exact .of_keeps (fun _ => rfl) rfl fun _ _ => loadA_flags
  case ldAMemA16 | ldhAMemA8 => exact fun a => .of_keeps (fun _ => rfl) rfl fun _ _ => loadA_flags
  case ldAMemHlInc | ldAMemHlDec =>
    exact .of_keeps (fun _ => rfl) rfl fun _ _ h => thenStepHl_flags h fun _ => loadA_flags
  case ret => exact .of_keeps (fun _ => rfl) rfl fun _ _ => returnTo_flags
  case reti => exact .of_keeps (fun _ => rfl) rfl fun _ _ => returnFromInterrupt_flags
  case callA16 => exact fun a => .of_keeps (fun _ => rfl) rfl fun _ _ => callTo_flags
  case daa =>
    exact .of_modifyOperand (op := daa8) (r := .reg .a) (fun _ => rfl) rfl fun v f => by
      rw [daa8_eq]; exact ⟨trivial, rfl, rfl, trivial⟩
  case cpl => exact .of_modifyOperand (op := cpl8) (r := .reg .a) (fun _ => rfl) rfl fun _ _ => ⟨rfl, rfl, rfl, rfl⟩
  case scf => exact .of_next (fun _ => rfl) rfl fun _ => ⟨rfl, rfl, rfl, rfl⟩
  case ccf => exact .of_next (fun _ => rfl) rfl fun _ => ⟨rfl, rfl, rfl, trivial⟩
  case rlca => exact followsSummary_accForm .rlc (fun _ => rfl) rfl
  case rrca => exact followsSummary_accForm .rrc (fun _ => rfl) rfl
  case rla => exact followsSummary_accForm .rl (fun _ => rfl) rfl
  case rra => exact followsSummary_accForm .rr (fun _ => rfl) rfl
  case addSpE8 | ldHlSpE8 => exact fun e => .of_next (fun _ => rfl) rfl fun _ => ⟨rfl, rfl, trivial, trivial⟩
  case nop | halt | di | ei | jpHl | ldSpHl => exact .of_next (fun _ => rfl) rfl fun _ => ⟨rfl, rfl, rfl, rfl⟩
  case jpA16 | jrE8 => exact fun _ => .of_next (fun _ => rfl) rfl fun _ => ⟨rfl, rfl, rfl, rfl⟩

/-- Settles O12: `followsSummary` is the statement for one instruction. -/
theorem flagsFrame : Obligations.FlagsFrame := followsSummary

end Sys2Proof.Machine
end

section
/-! PROOFS. Rotates, shifts and bits: the accumulator rotates (O35), the prefixed rotates and shifts (O36), BIT (O37),
RES and SET (O38). -/

namespace Sys2Proof.Machine

/-! ## Encodings and counts of the prefixed families (rules R99, R184) -/

theorem encode_rotR8 (op : RotOp) (r : R8) : encode (.rotR8 op r) = [0xCB, 8 * op.code + r.code] := by
  rcases r with (_ | _ | _ | _ | _ | _ | _) | _ <;> cases op <;> rfl

theorem encode_bitR8 (b : Oct) (r : R8) :
    encode (.bitR8 b r) = [0xCB, 0x40 + 8 * BitVec.ofNat 8 b.toNat + r.code] := by
  rcases r with (_ | _ | _ | _ | _ | _ | _) | _ <;> cases b <;> rfl

theorem encode_resR8 (b : Oct) (r : R8) :
    encode (.resR8 b r) = [0xCB, 0x80 + 8 * BitVec.ofNat 8 b.toNat + r.code] := by
  rcases r with (_ | _ | _ | _ | _ | _ | _) | _ <;> cases b <;> rfl

theorem encode_setR8 (b : Oct) (r : R8) :
    encode (.setR8 b r) = [0xCB, 0xC0 + 8 * BitVec.ofNat 8 b.toNat + r.code] := by
  rcases r with (_ | _ | _ | _ | _ | _ | _) | _ <;> cases b <;> rfl

theorem costOf_rotR8_reg (op : RotOp) (r : Reg) (f : Flags) : costOf Config.default (.rotR8 op (.reg r)) f = 8 := by
  cases r <;> cases op <;> rfl

theorem costOf_rotR8_mem (op : RotOp) (f : Flags) : costOf Config.default (.rotR8 op .memHl) f = 16 := by
  cases op <;> rfl

theorem costOf_bitR8_reg (b : Oct) (r : Reg) (f : Flags) : costOf Config.default (.bitR8 b (.reg r)) f = 8 := by
  cases r <;> cases b <;> rfl

theorem costOf_bitR8_mem (b : Oct) (f : Flags) : costOf Config.default (.bitR8 b .memHl) f = 12 := by cases b <;> rfl

theorem costOf_resR8_reg (b : Oct) (r : Reg) (f : Flags) : costOf Config.default (.resR8 b (.reg r)) f = 8 := by
  cases r <;> cases b <;> rfl

theorem costOf_resR8_mem (b : Oct) (f : Flags) : costOf Config.default (.resR8 b .memHl) f = 16 := by cases b <;> rfl

theorem costOf_setR8_reg (b : Oct) (r : Reg) (f : Flags) : costOf Config.default (.setR8 b (.reg r)) f = 8 := by
  cases r <;> cases b <;> rfl

theorem costOf_setR8_mem (b : Oct) (f : Flags) : costOf Config.default (.setR8 b .memHl) f = 16 := by cases b <;> rfl

/-! ## A register changed -/

/-- An instruction that changes a register writes the new byte and then the flags, both computed from the old byte. -/
theorem Completes.of_modifyOperand {i : Instr} {s : State} {op : Byte → Flags → Byte × Flags} {r : Reg} {w : Byte}
    {f : Flags} {n : Nat} (hop : op (s.reg r) s.cpu.flags = (w, f))
    (hexec : exec i s = finish (costOf s.cfg i s.cpu.flags) (modifyOperand op (.reg r) s))
    (hcost : costOf Config.default i s.cpu.flags = n) : Completes i s ((s.setReg r w).setFlags f) n :=
  .of_finish hexec (by rw [modifyOperand_reg, hop]) hcost

/-! ## Moves by one position (rules R185 to R192, R196) -/

/-- A byte moved left with a bit put in at the bottom: the shifted byte leaves bit 0 clear for it. -/
theorem append_ofBool_eq_shiftLeft (v : Byte) (b : Bool) :
    v.extractLsb' 0 7 ++ BitVec.ofBool b = v <<< 1 ||| (if b then 0x01 else 0) := by
  have hshift : v <<< 1 = v.extractLsb' 0 7 ++ 0#1 := BitVec.shiftLeft_eq_concat_of_lt (by decide)
  have hbit : (if b then 0x01 else 0 : Byte) = 0#7 ++ BitVec.ofBool b := by cases b <;> rfl
  rw [hshift, hbit, BitVec.or_append, BitVec.or_zero, BitVec.zero_or]

/-- A byte moved right with a bit put in at the top: the shifted byte leaves bit 7 clear for it. -/
theorem ofBool_append_eq_ushiftRight (v : Byte) (b : Bool) :
    BitVec.ofBool b ++ v.extractLsb' 1 7 = v >>> 1 ||| (if b then 0x80 else 0) := by
  have hshift : v >>> 1 = 0#1 ++ v.extractLsb' 1 7 := BitVec.ushiftRight_eq_extractLsb'_of_lt (by decide)
  have hbit : (if b then 0x80 else 0 : Byte) = BitVec.ofBool b ++ 0#7 := by cases b <;> rfl
  rw [hshift, hbit, BitVec.or_append, BitVec.or_zero, BitVec.zero_or]

/-- The two nibbles of a byte exchanged: each shift leaves the other's nibble clear. -/
theorem append_nibbles_eq_shifts (v : Byte) : v.extractLsb' 0 4 ++ v.extractLsb' 4 4 = v <<< 4 ||| v >>> 4 := by
  have hleft : v <<< 4 = v.extractLsb' 0 4 ++ 0#4 := BitVec.shiftLeft_eq_concat_of_lt (by decide)
  have hright : v >>> 4 = 0#4 ++ v.extractLsb' 4 4 := BitVec.ushiftRight_eq_extractLsb'_of_lt (by decide)
  rw [hleft, hright, BitVec.or_append, BitVec.or_zero, BitVec.zero_or]

/-- A result with the flags that the prefixed rotates and shifts give it. -/
def withShiftFlags (w : Byte) (c : Bool) : Byte × Flags := (w, shiftFlags w c)

theorem rlc8_eq (v : Byte) (f : Flags) :
    rlc8 v f = withShiftFlags (v <<< 1 ||| (if v.getLsbD 7 then 0x01 else 0)) (v.getLsbD 7) := by
  rw [rlc8, append_ofBool_eq_shiftLeft]
  rfl

theorem rrc8_eq (v : Byte) (f : Flags) :
    rrc8 v f = withShiftFlags (v >>> 1 ||| (if v.getLsbD 0 then 0x80 else 0)) (v.getLsbD 0) := by
  rw [rrc8, ofBool_append_eq_ushiftRight]
  rfl

theorem rl8_eq (v : Byte) (f : Flags) :
    rl8 v f = withShiftFlags (v <<< 1 ||| (if f.c then 0x01 else 0)) (v.getLsbD 7) := by
  rw [rl8, append_ofBool_eq_shiftLeft]
  rfl

theorem rr8_eq (v : Byte) (f : Flags) :
    rr8 v f = withShiftFlags (v >>> 1 ||| (if f.c then 0x80 else 0)) (v.getLsbD 0) := by
  rw [rr8, ofBool_append_eq_ushiftRight]
  rfl

theorem sla8_eq (v : Byte) (f : Flags) : sla8 v f = withShiftFlags (v <<< 1) (v.getLsbD 7) := by
  have hshift : v.extractLsb' 0 7 ++ (0 : BitVec 1) = v <<< 1 :=
    (append_ofBool_eq_shiftLeft v false).trans BitVec.or_zero
  rw [sla8, hshift]
  rfl

/-- SRA puts bit 7 in again at the top: it is the bit that the mask 0x80 leaves. -/
theorem sra8_eq (v : Byte) (f : Flags) : sra8 v f = withShiftFlags (v >>> 1 ||| (v &&& 0x80)) (v.getLsbD 0) := by
  have hmask : v &&& 0x80 = if v.getLsbD 7 then 0x80 else 0 := BitVec.and_twoPow v 7
  rw [sra8, ofBool_append_eq_ushiftRight, hmask]
  rfl

theorem swap8_eq (v : Byte) (f : Flags) : swap8 v f = withShiftFlags (v <<< 4 ||| v >>> 4) false := by
  rw [swap8, append_nibbles_eq_shifts]
  rfl

theorem srl8_eq (v : Byte) (f : Flags) : srl8 v f = withShiftFlags (v >>> 1) (v.getLsbD 0) := by
  have hshift : (0 : BitVec 1) ++ v.extractLsb' 1 7 = v >>> 1 :=
    (ofBool_append_eq_ushiftRight v false).trans BitVec.or_zero
  rw [srl8, hshift]
  rfl

/-! ## The rotates and shifts as instructions -/

/-- What a prefixed rotate or shift does on either form of operand, once its result and its carry are known. -/
theorem rotR8_of_rot8 {s : State} {op : RotOp} {v w : Byte} {c : Bool}
    (h : rot8 op v s.cpu.flags = withShiftFlags w c) :
    (∀ r : R8, encode (.rotR8 op r) = [0xCB, 8 * op.code + r.code]) ∧
    (∀ r : Reg, s.reg r = v →
      Completes (.rotR8 op (.reg r)) s ((s.setReg r w).setFlags (shiftFlags w c)) 8) ∧
    (busRead s s.hl = .ok v → storeOk s.hl w = true →
      StoresByte (.rotR8 op .memHl) s s.hl w 16 fun t => t.setFlags (shiftFlags w c)) := by
  refine ⟨encode_rotR8 op, fun r hr => ?_, fun hread hok => ?_⟩
  · subst hr
    exact .of_modifyOperand h (exec_rotR8 s op (.reg r)) (costOf_rotR8_reg op r _)
  · exact .of_modifyOperand h hread hok (exec_rotR8 s op .memHl) (costOf_rotR8_mem op _)

/-- Settles O36: the meaning is `modifyOperand` of `rot8`, whose result is the rule's formula for each operation. -/
theorem prefixedRotates : Obligations.PrefixedRotates := by
  intro s op v
  cases op with
  | rlc => exact rotR8_of_rot8 (rlc8_eq v s.cpu.flags)
  | rrc => exact rotR8_of_rot8 (rrc8_eq v s.cpu.flags)
  | rl => exact rotR8_of_rot8 (rl8_eq v s.cpu.flags)
  | rr => exact rotR8_of_rot8 (rr8_eq v s.cpu.flags)
  | sla => exact rotR8_of_rot8 (sla8_eq v s.cpu.flags)
  | sra => exact rotR8_of_rot8 (sra8_eq v s.cpu.flags)
  | swap => exact rotR8_of_rot8 (swap8_eq v s.cpu.flags)
  | srl => exact rotR8_of_rot8 (srl8_eq v s.cpu.flags)

/-- The accumulator form of a rotate has its result and its carry, and Z cleared whatever the result (rules
R180 to R183). -/
theorem Completes.of_accForm {i : Instr} {s : State} {op : Byte → Flags → Byte × Flags} {w : Byte} {c : Bool}
    (hop : op s.cpu.a s.cpu.flags = withShiftFlags w c)
    (hexec : exec i s = finish (costOf s.cfg i s.cpu.flags) (modifyOperand (accForm op) (.reg .a) s))
    (hcost : costOf Config.default i s.cpu.flags = 4) :
    Completes i s ((s.setReg .a w).setFlags ⟨false, false, false, c⟩) 4 := by
  have hacc : accForm op s.cpu.a s.cpu.flags = (w, ⟨false, false, false, c⟩) := by
    rw [accForm, hop]
    rfl
  exact .of_modifyOperand hacc hexec hcost

/-- Settles O35: the four are the accumulator forms of RLC, RL, RRC and RR. -/
theorem accumulatorRotates : Obligations.AccumulatorRotates := fun _ =>
  ⟨⟨rfl, .of_accForm (rlc8_eq _ _) rfl rfl⟩, ⟨rfl, .of_accForm (rl8_eq _ _) rfl rfl⟩,
    ⟨rfl, .of_accForm (rrc8_eq _ _) rfl rfl⟩, rfl, .of_accForm (rr8_eq _ _) rfl rfl⟩

/-! ## Bits (rules R193 to R195) -/

/-- Settles O37: the meaning is `bitTest`, which writes the flags alone. -/
theorem testBit : Obligations.TestBit := by
  intro s b v
  refine ⟨encode_bitR8 b, fun r hr => ?_, fun hread => ?_⟩
  · subst hr
    exact .of_finish (exec_bitR8 s b (.reg r)) rfl (costOf_bitR8_reg b r _)
  · exact .of_finish (exec_bitR8 s b .memHl) (withOperand_memHl hread) (costOf_bitR8_mem b _)

theorem bitMask_eq_shiftLeft (b : Oct) : bitMask b = (1 : Byte) <<< b.toNat := by cases b <;> rfl

theorem res8_eq (b : Oct) (v : Byte) (f : Flags) : res8 b v f = (v &&& ~~~((1 : Byte) <<< b.toNat), f) := by
  rw [res8, show 0xFF ^^^ bitMask b = ~~~bitMask b from BitVec.allOnes_xor, bitMask_eq_shiftLeft]

theorem set8_eq (b : Oct) (v : Byte) (f : Flags) : set8 b v f = (v ||| (1 : Byte) <<< b.toNat, f) := by
  rw [set8, bitMask_eq_shiftLeft]

/-- Writing back the flags that are there changes nothing. -/
theorem State.setFlags_of_flags_eq {t : State} {f : Flags} (h : t.cpu.flags = f) : t.setFlags f = t := by
  subst h
  rfl

/-- A register changed and the flags kept. -/
theorem Completes.of_modifyOperand_keepFlags {i : Instr} {s : State} {op : Byte → Flags → Byte × Flags} {r : Reg}
    {w : Byte} {n : Nat} (hop : op (s.reg r) s.cpu.flags = (w, s.cpu.flags))
    (hexec : exec i s = finish (costOf s.cfg i s.cpu.flags) (modifyOperand op (.reg r) s))
    (hcost : costOf Config.default i s.cpu.flags = n) : Completes i s (s.setReg r w) n := by
  have h : Completes i s ((s.setReg r w).setFlags s.cpu.flags) n := .of_modifyOperand hop hexec hcost
  rwa [State.setFlags_of_flags_eq (s.setReg_cpu_flags r w)] at h

/-- The byte at HL changed and the flags kept. -/
theorem StoresByte.of_modifyOperand_keepFlags {i : Instr} {s : State} {op : Byte → Flags → Byte × Flags} {v w : Byte}
    {n : Nat} (hop : op v s.cpu.flags = (w, s.cpu.flags)) (hread : busRead s s.hl = .ok v)
    (hok : storeOk s.hl w = true)
    (hexec : exec i s = finish (costOf s.cfg i s.cpu.flags) (modifyOperand op .memHl s))
    (hcost : costOf Config.default i s.cpu.flags = n) : StoresByte i s s.hl w n id := by
  obtain ⟨t, hwrite, hcompletes, houtside, hmem⟩ := StoresByte.of_modifyOperand hop hread hok hexec hcost
  have hkeep : t.setFlags s.cpu.flags = t := State.setFlags_of_flags_eq (congrArg Cpu.flags hmem.cpu)
  simp only [hkeep] at hcompletes houtside
  exact ⟨t, hwrite, hcompletes, houtside, hmem⟩

/-- Settles O38: the meanings are `modifyOperand` of `res8` and `set8`, which hand the flags on. -/
theorem resetAndSetBit : Obligations.ResetAndSetBit := by
  intro s b v
  refine ⟨fun r => ⟨encode_resR8 b r, encode_setR8 b r⟩, fun r hr => ?_, fun hread hok => ?_, fun hread hok => ?_⟩
  · subst hr
    exact ⟨.of_modifyOperand_keepFlags (res8_eq b _ _) (exec_resR8 s b (.reg r)) (costOf_resR8_reg b r _),
      .of_modifyOperand_keepFlags (set8_eq b _ _) (exec_setR8 s b (.reg r)) (costOf_setR8_reg b r _)⟩
  · exact .of_modifyOperand_keepFlags (res8_eq b v _) hread hok (exec_resR8 s b .memHl) (costOf_resR8_mem b _)
  · exact .of_modifyOperand_keepFlags (set8_eq b v _) hread hok (exec_setR8 s b .memHl) (costOf_setR8_mem b _)

end Sys2Proof.Machine
end

section
/-! PROOFS. Control transfer: jumps (O39), calls and restarts (O40), returns (O41), and the two ways back: RET after a call
(O42), RETI after an interrupt service (O10). -/

namespace Sys2Proof.Machine

/-! ## Encodings and counts of the families (rules R94, R96, R98, R200) -/

theorem encode_jpCc (cc : Cond) (w : Word) : encode (.jpCc cc w) = [0xC2 + 8 * cc.code, loByte w, hiByte w] := by
  cases cc <;> rfl

theorem encode_jrCc (cc : Cond) (e : Byte) : encode (.jrCc cc e) = [0x20 + 8 * cc.code, e] := by cases cc <;> rfl

theorem encode_callCc (cc : Cond) (w : Word) : encode (.callCc cc w) = [0xC4 + 8 * cc.code, loByte w, hiByte w] := by
  cases cc <;> rfl

theorem encode_retCc (cc : Cond) : encode (.retCc cc) = [0xC0 + 8 * cc.code] := by cases cc <;> rfl

theorem encode_rst (t : Oct) : encode (.rst t) = [0xC7 + 8 * BitVec.ofNat 8 t.toNat] := by cases t <;> rfl

theorem costOf_jpCc (cc : Cond) (w : Word) (f : Flags) :
    costOf Config.default (.jpCc cc w) f = if condHolds cc f then 16 else 12 :=
  (costOf_default _ f).trans (by cases cc <;> rfl)

theorem costOf_jrCc (cc : Cond) (e : Byte) (f : Flags) :
    costOf Config.default (.jrCc cc e) f = if condHolds cc f then 12 else 8 :=
  (costOf_default _ f).trans (by cases cc <;> rfl)

theorem costOf_callCc (cc : Cond) (w : Word) (f : Flags) :
    costOf Config.default (.callCc cc w) f = if condHolds cc f then 24 else 12 :=
  (costOf_default _ f).trans (by cases cc <;> rfl)

theorem costOf_retCc (cc : Cond) (f : Flags) :
    costOf Config.default (.retCc cc) f = if condHolds cc f then 20 else 8 :=
  (costOf_default _ f).trans (by cases cc <;> rfl)

theorem costOf_rst (t : Oct) (f : Flags) : costOf Config.default (.rst t) f = 16 := by cases t <;> rfl

/-! ## Jumps (rules R201 to R205) -/

/-- A conditional jump writes `pc` when its condition holds, and nothing otherwise. -/
theorem Completes.of_condJump {i : Instr} {s t : State} {c : Bool} {n : Nat}
    (hexec : exec i s = finish (costOf s.cfg i s.cpu.flags) (if c then .ok t else .ok s))
    (hcost : costOf Config.default i s.cpu.flags = n) : Completes i s (if c then t else s) n :=
  .of_finish hexec (apply_ite Except.ok _ t s).symm hcost

/-- Settles O39: the bodies are `jump` and `jumpRel`, whose sum is the signed one. -/
theorem jumps : Obligations.Jumps := by
  refine ⟨fun _ => ⟨rfl, rfl, rfl, rfl⟩, fun s a e cc => ?_⟩
  rw [← add_signExt]
  exact ⟨⟨rfl, .of_finish rfl rfl rfl⟩, ⟨rfl, .of_finish rfl rfl rfl⟩, ⟨rfl, .of_finish rfl rfl rfl⟩,
    ⟨encode_jpCc cc a, .of_condJump (exec_jpCc s cc a) (costOf_jpCc cc a _)⟩,
    encode_jrCc cc e, .of_condJump (exec_jrCc s cc e) (costOf_jrCc cc e _)⟩

/-! ## Calls and restarts (rules R206, R207, R211) -/

theorem exec_callCc_taken {s : State} {cc : Cond} (h : condHolds cc s.cpu.flags = true) (w : Word) :
    exec (.callCc cc w) s = finish (costOf s.cfg (.callCc cc w) s.cpu.flags) (callTo w s) := by
  rw [exec_callCc, if_pos h]

/-- A call or return whose condition is false does nothing. -/
theorem Completes.of_untaken {i : Instr} {s : State} {c : Bool} {r : Except Fault State} {n : Nat} (hc : c = false)
    (hexec : exec i s = finish (costOf s.cfg i s.cpu.flags) (if c then r else .ok s))
    (hcost : costOf Config.default i s.cpu.flags = n) : Completes i s s n :=
  .of_finish hexec (if_neg (ne_true_of_eq_false hc)) hcost

theorem callTo_of_busWrites {s t1 t2 : State} {w : Word}
    (h1 : busWrite s (s.cpu.sp - 1) (hiByte s.cpu.pc) = .ok t1)
    (h2 : busWrite t1 (s.cpu.sp - 2) (loByte s.cpu.pc) = .ok t2) :
    callTo w s = .ok ((t2.setSp (s.cpu.sp - 2)).setPc w) := by
  rw [callTo, push16_of_busWrites h1 h2]

/-- An instruction whose body is a call stores the two bytes of `pc`, the high one first, and enters its target. -/
theorem StoresTwo.of_callTo {i : Instr} {s : State} {w : Word} {n : Nat}
    (h1 : storeOk (s.cpu.sp - 1) (hiByte s.cpu.pc) = true) (h2 : storeOk (s.cpu.sp - 2) (loByte s.cpu.pc) = true)
    (hexec : exec i s = finish (costOf s.cfg i s.cpu.flags) (callTo w s))
    (hcost : costOf Config.default i s.cpu.flags = n) :
    StoresTwo i s (s.cpu.sp - 1) (hiByte s.cpu.pc) (s.cpu.sp - 2) (loByte s.cpu.pc) n
      fun u => (u.setSp (s.cpu.sp - 2)).setPc w :=
  .of_finish h1 h2 hexec (fun _ _ => callTo_of_busWrites) (fun _ _ => rfl) hcost

/-- Settles O40: CALL, CALL cc when taken and RST are one body, `callTo`. -/
theorem calls : Obligations.Calls := by
  intro s a cc t
  refine ⟨⟨rfl, encode_callCc cc a, encode_rst t⟩, fun hcc => ?_, fun h1 h2 => ⟨?_, fun hcc => ?_, ?_⟩⟩
  · exact .of_untaken hcc (exec_callCc s cc a) ((costOf_callCc cc a _).trans (if_neg (ne_true_of_eq_false hcc)))
  · exact .of_callTo h1 h2 rfl rfl
  · exact .of_callTo h1 h2 (exec_callCc_taken hcc a) ((costOf_callCc cc a _).trans (if_pos hcc))
  · exact .of_callTo h1 h2 (exec_rst s t) (costOf_rst t _)

/-! ## Returns (rules R208 to R210) -/

theorem returnTo_of_pop16 {s t : State} {w : Word} (h : pop16 s = .ok (w, t)) : returnTo s = .ok (t.setPc w) := by
  rw [returnTo, h]

theorem returnFromInterrupt_of_pop16 {s t : State} {w : Word} (h : pop16 s = .ok (w, t)) :
    returnFromInterrupt s = .ok ((t.setPc w).setIme true) := by
  rw [returnFromInterrupt, returnTo_of_pop16 h]

/-- RET completes with the popped word in `pc`. -/
theorem completes_ret {s t : State} {w : Word} (h : pop16 s = .ok (w, t)) : Completes .ret s (t.setPc w) 16 :=
  .of_finish rfl (returnTo_of_pop16 h) rfl

/-- RETI completes with the popped word in `pc` and IME set. -/
theorem completes_reti {s t : State} {w : Word} (h : pop16 s = .ok (w, t)) :
    Completes .reti s ((t.setPc w).setIme true) 16 :=
  .of_finish rfl (returnFromInterrupt_of_pop16 h) rfl

/-- Settles O41: RET and RET cc when taken are `returnTo`; RETI sets IME after it. -/
theorem returns : Obligations.Returns := by
  intro s cc l h
  refine ⟨⟨rfl, rfl, encode_retCc cc⟩, fun hcc => ?_, fun hl hh => ?_⟩
  · exact .of_untaken hcc (exec_retCc s cc) ((costOf_retCc cc _).trans (if_neg (ne_true_of_eq_false hcc)))
  · have hpop := pop16_ok hl hh
    refine ⟨completes_ret hpop, fun hcc => ?_, completes_reti hpop⟩
    refine .of_finish (exec_retCc s cc) ?_ ((costOf_retCc cc _).trans (if_pos hcc))
    exact (if_pos hcc).trans (returnTo_of_pop16 hpop)

/-! ## RET after a call -/

/-- The state a call enters its target in when both bytes of the stack are in work RAM. -/
def State.called (s : State) (w : Word) : State :=
  (State.setSp { s with ram := s.pushedRam s.cpu.pc } (s.cpu.sp - 2)).setPc w

theorem callTo_wram {s : State} (w : Word) (hlo : 0xC002 ≤ s.cpu.sp.toNat) (hhi : s.cpu.sp.toNat ≤ 0xE000) :
    callTo w s = .ok (s.called w) := by
  rw [callTo, push16_wram _ hlo hhi]
  rfl

/-- The three instructions of the round trip are calls. -/
theorem exec_call {s : State} {i : Instr}
    (h : (∃ a, i = .callA16 a) ∨ (∃ cc a, i = .callCc cc a ∧ condHolds cc s.cpu.flags = true) ∨ ∃ k, i = .rst k) :
    ∃ w n, exec i s = finish n (callTo w s) := by
  rcases h with ⟨a, rfl⟩ | ⟨cc, a, rfl, hcc⟩ | ⟨k, rfl⟩
  · exact ⟨a, _, rfl⟩
  · exact ⟨a, _, exec_callCc_taken hcc a⟩
  · exact ⟨_, _, exec_rst s k⟩

/-- Settles O42: RET pops the `pc` that the call pushed, which undoes the call's two writes to the CPU. -/
theorem callReturnRoundTrip : Obligations.CallReturnRoundTrip := by
  intro s i hwf hlo hhi hi
  obtain ⟨w, n, hexec⟩ := exec_call hi
  have hcall : exec i s = .next ((s.called w).setCycles n) := by rw [hexec, callTo_wram w hlo hhi, finish_ok]
  obtain ⟨hret, -⟩ := completes_ret (pop16_pushedRam (t := (s.called w).setCycles n) s.cpu.pc hwf hlo hhi rfl rfl)
  refine ⟨_, _, hcall, rfl, hret, ?_⟩
  show { s.cpu with sp := s.cpu.sp, pc := s.cpu.pc } = s.cpu
  rfl

/-! ## RETI after a service (rules R238, R239) -/

/-- The state after the service of `src` when both bytes of the stack are in work RAM. -/
def State.serviced (s : State) (src : Source) : State :=
  { s with
    ram := s.pushedRam s.cpu.pc
    ifReg := s.ifReg &&& (0xFF ^^^ src.mask)
    cpu := { s.cpu with ime := false, sp := s.cpu.sp - 2, pc := src.vector s.cfg.vec }
    cycles := s.cycles + Config.intPenalty }

/-- A service that finds a source after its push clears the request and enters the vector (rule R238). -/
theorem takeInterrupt_of_push16 {s t : State} {src : Source} (hpush : push16 s.cpu.pc (s.setIme false) = .ok t)
    (hsrc : firstSource t.pendingByte = some src) :
    takeInterrupt s =
      .ok ((State.setPc { t with ifReg := t.ifReg &&& (0xFF ^^^ src.mask) } (src.vector t.cfg.vec)).setCycles
        (t.cycles + Config.intPenalty)) := by
  simp only [takeInterrupt, hpush, pendingVector, hsrc]

theorem takeInterrupt_wram {s : State} {src : Source} (hsrc : firstSource s.pendingByte = some src)
    (hlo : 0xC002 ≤ s.cpu.sp.toNat) (hhi : s.cpu.sp.toNat ≤ 0xE000) : takeInterrupt s = .ok (s.serviced src) :=
  takeInterrupt_of_push16 (push16_wram (s := s.setIme false) s.cpu.pc hlo hhi) hsrc

/-- A running CPU with IME set takes the interrupt of a pending source at the end of its instruction. -/
theorem endOfInstruction_of_source {s t : State} {src : Source} (hime : s.cpu.ime = true) (hrun : s.cpu.halted = false)
    (hsrc : firstSource s.pendingByte = some src) (htake : takeInterrupt s = .ok t) :
    endOfInstruction (.next s) = .next t := by
  have hpending : s.hasPending = true := by
    refine decide_eq_true fun hzero => ?_
    rw [hzero] at hsrc
    cases hsrc
  have hwake : wakeAfter s = s := by rw [wakeAfter, hrun]; rfl
  simp only [endOfInstruction, hwake, serviceCheck, hime, hpending, htake, Bool.and_self, if_true]

/-- Settles O10: RETI pops the `pc` that the service pushed, and IME is set again as it was. -/
theorem serviceThenReti : Obligations.ServiceThenReti := by
  intro s hwf hime hrun hpending hlo hhi
  obtain ⟨src, hsrc⟩ := Option.ne_none_iff_exists'.1 (mt firstSource_eq_none_iff.1 hpending)
  have hservice := endOfInstruction_of_source hime hrun hsrc (takeInterrupt_wram hsrc hlo hhi)
  obtain ⟨hreti, -⟩ := completes_reti (pop16_pushedRam (t := s.serviced src) s.cpu.pc hwf hlo hhi rfl rfl)
  refine ⟨_, _, hservice, rfl, hreti, ?_, rfl, src, rfl, rfl⟩
  show { s.cpu with ime := true, sp := s.cpu.sp, pc := s.cpu.pc } = s.cpu
  rw [← hime]

end Sys2Proof.Machine
end

section
/-! PROOFS. The system instructions: NOP, DI and EI (O43), STOP (O44), HALT and the two wakes (O6), and the bytes that name
no instruction (O3). -/

namespace Sys2Proof

/-! ## The unrecognized bytes in the decoder and the encoder (rules R100, R226) -/

/-- An unrecognized instruction is one byte long, and that byte is one of the eleven. -/
theorem encode_of_isUnrecognized {i : Instr} (h : i.isUnrecognized = true) :
    ∃ op ∈ unrecognizedBytes, encode i = [op] := by
  cases i <;> cases h <;> exact ⟨_, by decide, rfl⟩

/-- Whether the base table names no instruction is told by the first byte: the encoding starts with it, and each of the
eleven has its own cell. -/
theorem decodeOp_isUnrecognized_iff (op n1 n2 : Byte) :
    (decodeOp op n1 n2).isUnrecognized = true ↔ op ∈ unrecognizedBytes := by
  constructor
  · intro h
    obtain ⟨u, hu, he⟩ := encode_of_isUnrecognized h
    rw [encode_decodeOp] at he
    exact (List.cons.inj he).1 ▸ hu
  · have hcells : unrecognizedBytes.all (fun b => (decodeOp b n1 n2).isUnrecognized) = true := rfl
    exact List.all_eq_true.1 hcells op

end Sys2Proof

namespace Sys2Proof.Machine

/-- An unrecognized instruction changes nothing but the count (rule R226). -/
theorem exec_of_isUnrecognized {i : Instr} (h : i.isUnrecognized = true) (s : State) :
    exec i s = .next (s.setCycles s.cfg.cycUnrecognized) := by
  cases i <;> cases h <;> rfl

/-- Settles O3: the first byte tells, by the encoding; `unrecognizedBytes` alone is the model's list of the eleven. -/
theorem unrecognizedBytes_noOps : Obligations.UnrecognizedBytes :=
  ⟨decodeOp_isUnrecognized_iff, fun _ h => ⟨encode_of_isUnrecognized h, fun s => ⟨exec_of_isUnrecognized h s, rfl⟩⟩⟩

/-! ## NOP, DI, EI and STOP (rules R220, R222 to R224) -/

/-- Settles O43: each body completes with the state written out. -/
theorem systemInstructions : Obligations.SystemInstructions := fun _ =>
  ⟨⟨rfl, .of_finish rfl rfl rfl⟩, ⟨rfl, .of_finish rfl rfl rfl⟩, rfl, .of_finish rfl rfl rfl⟩

/-- Settles O44: the cell of 0x10 is STOP with the byte after it, and STOP's meaning is the fault. -/
theorem stopFaults : Obligations.StopFaults := ⟨fun _ _ => rfl, fun _ => rfl, fun _ _ => rfl⟩

/-! ## HALT and the two wakes (rules R221, R236, R237) -/

theorem State.hasPending_iff (s : State) : s.hasPending = true ↔ s.ieReg &&& s.ifReg ≠ 0 := decide_eq_true_iff

/-- A CPU that does not stay halted steps as the CPU not halted: the fetch starts from that state (rule R236). -/
theorem cpuStep_setHalted_false {s : State} (h : s.staysHalted ≠ true) : cpuStep s = cpuStep (s.setHalted false) := by
  have hawake : (s.setHalted false).staysHalted ≠ true := Bool.false_ne_true
  rw [cpuStep, cpuStep, if_neg h, if_neg hawake]
  rfl

/-- With something pending, S3 leaves the CPU running (rule R237). -/
theorem wakeAfter_of_hasPending {s : State} (h : s.hasPending = true) : wakeAfter s = s.setHalted false := by
  rw [wakeAfter_eq, h, Bool.not_true, Bool.and_false]

theorem exec_halt (s : State) :
    exec .halt s = .next ((s.setHalted true).setCycles (costOf s.cfg .halt s.cpu.flags)) := rfl

/-- With something pending, the end of a step is that of the state not halted (rule R237). -/
theorem endOfInstruction_setHalted_false {s : State} (h : s.hasPending = true) :
    endOfInstruction (.next s) = endOfInstruction (.next (s.setHalted false)) := by
  have hawake : wakeAfter (s.setHalted false) = s.setHalted false := wakeAfter_of_hasPending h
  simp only [endOfInstruction, wakeAfter_of_hasPending h, hawake]

/-- Settles O6: S1 of the step either stays halted or goes on as not halted, and S3 undoes HALT when something is
pending. -/
theorem haltAndWake : Obligations.HaltAndWake := by
  refine fun s => ⟨fun hhalt hnone => ?_, fun _ hpending => ?_, rfl, ⟨exec_halt s, rfl⟩, fun hpending => ?_⟩
  · exact cpuStep_of_staysHalted (s.staysHalted_iff.2 ⟨hhalt, hnone⟩)
  · exact cpuStep_setHalted_false fun h => hpending (s.staysHalted_iff.1 h).2
  · rw [exec_halt]
    exact endOfInstruction_setHalted_false (s.hasPending_iff.2 hpending)

end Sys2Proof.Machine
end

section
/-! PROOFS. Interrupts: the source a service takes (O8), the service at the end of an instruction (O7), and the requests that
come from outside the CPU and the PPU (O9). -/

namespace Sys2Proof.Machine

/-! ## The source taken (rule R234) -/

/-- A source's mask is its bit (rule R231). -/
theorem Source.mask_eq (src : Source) : src.mask = BitVec.ofNat 8 (2 ^ src.bit) := by cases src <;> rfl

/-- A source whose bit is set while no earlier one's is comes first (rule R234). -/
theorem firstSource_of_first {p : Byte} {src : Source} (hset : p.getLsbD src.bit = true)
    (hearlier : ∀ q : Source, q.bit < src.bit → p.getLsbD q.bit = false) : firstSource p = some src := by
  have hno (q : Source) (hq : q.bit < src.bit) : ¬p.getLsbD q.bit = true := ne_true_of_eq_false (hearlier q hq)
  cases src with
  | vblank => exact if_pos hset
  | stat => exact (if_neg (hno .vblank (by decide))).trans (if_pos hset)
  | timer =>
    exact (if_neg (hno .vblank (by decide))).trans ((if_neg (hno .stat (by decide))).trans (if_pos hset))
  | serial =>
    exact (if_neg (hno .vblank (by decide))).trans ((if_neg (hno .stat (by decide))).trans
      ((if_neg (hno .timer (by decide))).trans (if_pos hset)))
  | joypad =>
    exact (if_neg (hno .vblank (by decide))).trans ((if_neg (hno .stat (by decide))).trans
      ((if_neg (hno .timer (by decide))).trans ((if_neg (hno .serial (by decide))).trans (if_pos hset))))

theorem pendingVector_of_source {s : State} {src : Source} (h : firstSource s.pendingByte = some src) :
    pendingVector s = .ok (src.vector s.cfg.vec, { s with ifReg := s.ifReg &&& (0xFF ^^^ src.mask) }) := by
  rw [pendingVector, h]

theorem pendingVector_of_no_source {s : State} (h : firstSource s.pendingByte = none) :
    pendingVector s = .error .pendingWithoutSource := by
  rw [pendingVector, h]

/-- Settles O8: `firstSource_of_first` names the source, and without one of the five `firstSource` has none. -/
theorem sourcePriority : Obligations.SourcePriority := by
  refine ⟨rfl, fun src => by cases src <;> rfl, fun _ => rfl, fun s => ⟨fun src hset hearlier => ?_, fun hnone => ?_⟩⟩
  · rw [← src.mask_eq]
    exact pendingVector_of_source (firstSource_of_first hset hearlier)
  · exact pendingVector_of_no_source (firstSource_eq_none_iff.2 hnone)

/-! ## The service (rules R235, R238) -/

/-- A push from a state with another CPU is the same two writes. -/
theorem push16_withCpu {s t1 t2 : State} {c : Cpu} {w : Word} (h1 : busWrite s (c.sp - 1) (hiByte w) = .ok t1)
    (h2 : busWrite t1 (c.sp - 2) (loByte w) = .ok t2) :
    push16 w { s with cpu := c } = .ok { t2 with cpu := { c with sp := c.sp - 2 } } :=
  push16_of_busWrites (s := { s with cpu := c }) (t1 := { t1 with cpu := c }) (t2 := { t2 with cpu := c })
    (by rw [busWrite_withCpu, h1]; rfl) (by rw [busWrite_withCpu, h2]; rfl)

theorem takeInterrupt_of_no_source {s t : State} (hpush : push16 s.cpu.pc (s.setIme false) = .ok t)
    (hnone : firstSource t.pendingByte = none) : takeInterrupt s = .error .pendingWithoutSource := by
  simp only [takeInterrupt, hpush, pendingVector_of_no_source hnone]

/-- Without IME or without a request S4 does nothing, so that S3 alone is left. -/
theorem endOfInstruction_of_no_service {s : State} (h : s.cpu.ime = false ∨ s.hasPending = false) :
    endOfInstruction (.next s) = .next (wakeAfter s) := by
  have hcheck : serviceCheck (wakeAfter s) = .ok (wakeAfter s) := by
    refine if_neg ?_
    have hpending : (wakeAfter s).hasPending = s.hasPending := by rw [wakeAfter_eq]; rfl
    have hime : (wakeAfter s).cpu.ime = s.cpu.ime := by rw [wakeAfter_eq]; rfl
    rw [hpending, hime]
    rcases h with h | h <;> simp [h]
  simp only [endOfInstruction, hcheck]

/-- With IME and a request the awake CPU takes the interrupt. -/
theorem serviceCheck_wakeAfter_of_pending {s : State} (hime : s.cpu.ime = true) (hpending : s.hasPending = true) :
    serviceCheck (wakeAfter s) = takeInterrupt (s.setHalted false) := by
  rw [wakeAfter_of_hasPending hpending]
  exact if_pos (Bool.and_eq_true_iff.2 ⟨hime, hpending⟩)

/-- Settles O7: the two writes do not look at the CPU, and the source is the first one pending after them. -/
theorem interruptService : Obligations.InterruptService := by
  refine fun s => ⟨fun h => ?_, fun hime hpending hok1 hok2 => ?_⟩
  · exact endOfInstruction_of_no_service (h.imp_right s.hasPending_eq_false_iff.2)
  · obtain ⟨t1, h1⟩ := (busWrite_ok_iff (s := s)).2 hok1
    obtain ⟨t2, h2⟩ := (busWrite_ok_iff (s := t1)).2 hok2
    have hframe : OnlyMemory s t2 := (busWrite_inv h1).1.trans (busWrite_inv h2).1
    have hpush : push16 s.cpu.pc ((s.setHalted false).setIme false) =
        .ok { t2 with cpu := { s.cpu with ime := false, halted := false, sp := s.cpu.sp - 2 } } :=
      push16_withCpu (s := s) (c := { s.cpu with ime := false, halted := false }) h1 h2
    refine ⟨t1, t2, h1, h2, hframe, ?_⟩
    rw [endOfInstruction, serviceCheck_wakeAfter_of_pending hime (s.hasPending_iff.2 hpending)]
    cases hsrc : firstSource (t2.ieReg &&& t2.ifReg) with
    | none => rw [takeInterrupt_of_no_source hpush hsrc]
    | some src =>
      rw [takeInterrupt_of_push16 hpush hsrc, ← hframe.cfg, ← hframe.cycles]
      rfl

/-! ## Requests from outside (rules R232, R246, R270) -/

/-- The byte of a request that is made or not. -/
def requestBits (b : Bool) (src : Source) : Byte := if b then src.mask else 0

theorem State.raiseIf_ifReg (s : State) (b : Bool) (src : Source) :
    (s.raiseIf b src).ifReg = s.ifReg ||| requestBits b src := by
  cases b
  · exact BitVec.or_zero.symm
  · rfl

/-- The timer makes its own request or none, and none under `TIMER_MODEL = none`. -/
theorem timerAgent_ifReg (e : AgentEvent) (s : State) :
    ∃ b, (timerAgent e s).ifReg = s.ifReg ||| requestBits b .timer ∧ (s.cfg.timer = .none → b = false) := by
  unfold timerAgent
  cases s.cfg.timer with
  | external => exact ⟨e.timer, s.raiseIf_ifReg _ _, fun h => nomatch h⟩
  | none => exact ⟨false, BitVec.or_zero.symm, fun _ => rfl⟩

/-- The joypad makes its own request or none; under `JOYPAD_MODEL = none` it makes none and the buttons stay. -/
theorem joypadAgent_ifReg (e : AgentEvent) (s : State) :
    ∃ b, (joypadAgent e s).ifReg = s.ifReg ||| requestBits b .joypad ∧
      (s.cfg.joypad = .none → b = false ∧ (joypadAgent e s).buttons = s.buttons) := by
  unfold joypadAgent
  cases s.cfg.joypad with
  | external =>
    refine ⟨e.joypad, ?_, fun h => nomatch h⟩
    rw [← s.raiseIf_ifReg]
    cases e.buttons <;> rfl
  | none => exact ⟨false, BitVec.or_zero.symm, fun _ => ⟨rfl, rfl⟩⟩

/-- One entry of the script: the timer's request or none, then the joypad's or none. -/
theorem joypadAgent_timerAgent_ifReg (e : AgentEvent) (s : State) :
    ∃ bt bj, (joypadAgent e (timerAgent e s)).ifReg = s.ifReg ||| requestBits bt .timer ||| requestBits bj .joypad ∧
      (s.cfg.timer = .none → bt = false) ∧
      (s.cfg.joypad = .none → bj = false ∧ (joypadAgent e (timerAgent e s)).buttons = s.buttons) := by
  obtain ⟨bt, ht, hnt⟩ := timerAgent_ifReg e s
  obtain ⟨bj, hj, hnj⟩ := joypadAgent_ifReg e (timerAgent e s)
  refine ⟨bt, bj, by rw [hj, ht], hnt, ?_⟩
  rw [timerAgent_eq] at hnj ⊢
  exact hnj

theorem externalAgent_of_nil {s : State} (h : s.agent = []) :
    externalAgent s = { s with timerEpoch := s.timerEpoch + 1 } := by
  simp only [externalAgent, h]

theorem externalAgent_of_cons {s : State} {e : AgentEvent} {es : List AgentEvent} (h : s.agent = e :: es) :
    externalAgent s = joypadAgent e (timerAgent e { s with timerEpoch := s.timerEpoch + 1, agent := es }) := by
  simp only [externalAgent, h]

/-- The agent changes IF, the buttons and its own bookkeeping. -/
theorem externalAgent_eq (s : State) :
    externalAgent s =
      { s with
        ifReg := (externalAgent s).ifReg
        buttons := (externalAgent s).buttons
        timerEpoch := s.timerEpoch + 1
        agent := s.agent.tail } := by
  cases hagent : s.agent with
  | nil => rw [externalAgent_of_nil hagent, List.tail_nil, ← hagent]
  | cons e es => rw [externalAgent_of_cons hagent, joypadAgent_eq, timerAgent_eq]; rfl

/-- The agent makes the timer's request or not, then the joypad's or not. -/
theorem externalAgent_ifReg (s : State) :
    ∃ bt bj, (externalAgent s).ifReg = s.ifReg ||| requestBits bt .timer ||| requestBits bj .joypad ∧
      (s.cfg.timer = .none → bt = false) ∧
      (s.cfg.joypad = .none → bj = false ∧ (externalAgent s).buttons = s.buttons) := by
  cases hagent : s.agent with
  | nil =>
    rw [externalAgent_of_nil hagent]
    exact ⟨false, false, by simp [requestBits], fun _ => rfl, fun _ => ⟨rfl, rfl⟩⟩
  | cons e es =>
    rw [externalAgent_of_cons hagent]
    exact joypadAgent_timerAgent_ifReg e _

theorem requestBits_mask (bt bj : Bool) (f : Byte) :
    (f ||| requestBits bt .timer ||| requestBits bj .joypad) &&& 0xEB = f &&& 0xEB := by
  revert f
  cases bt <;> cases bj <;> decide

/-- Settles O9: `externalAgent_eq` is the frame, and IF gains at most the two requests. -/
theorem requestsFromOutside : Obligations.RequestsFromOutside := by
  intro s
  obtain ⟨bt, bj, hif, hnt, hnj⟩ := externalAgent_ifReg s
  refine ⟨fun src => ⟨?_, ?_⟩, externalAgent_eq s, ?_, ?_, fun h => ?_, fun h => ⟨?_, (hnj h).2⟩⟩
  · rw [← src.mask_eq]; rfl
  · show { s with ifReg := s.ifReg ||| src.mask ||| src.mask } = _
    rw [BitVec.or_assoc, BitVec.or_self]; rfl
  · rw [hif, requestBits_mask]
  · rw [hif, BitVec.or_assoc]
    ext i
    simpa using Or.inl
  · rw [hif, hnt h]
    cases bj <;> simp [requestBits, Source.mask]
  · rw [hif, (hnj h).1]
    cases bt <;> simp [requestBits, Source.mask]

end Sys2Proof.Machine
end

section
/-! PROOFS. The PPU between two steps: the line compare at the exit of a mode (O54), the sprite search (O55), ticks that add
up and the frame of 70,224 cycles (O57), and the timing of a line (O53). -/

namespace Sys2Proof.Machine

/-! ## Leaving a mode (rules R253, R254, R256) -/

/-- The compare's request: STAT bit 6 set and the line equal to LYC (rule R256). -/
theorem lineCompare_ifReg (s : State) :
    (lineCompare s).ifReg =
      s.ifReg ||| if s.ppu.line = s.ppu.lyc.toNat ∧ s.ppu.statSel.getLsbD 3 = true then 0x02 else 0 := by
  unfold lineCompare
  by_cases hline : s.ppu.line = s.ppu.lyc.toNat
  · by_cases hsel : s.ppu.statSel.getLsbD 3 = true
    · simp only [if_pos hline, if_pos hsel, if_pos (And.intro hline hsel)]; rfl
    · simp only [if_pos hline, if_neg hsel, if_neg (mt And.right hsel)]; exact BitVec.or_zero.symm
  · simp only [if_neg hline, if_neg (mt And.left hline)]; exact BitVec.or_zero.symm

/-- The request the exit of a mode makes before its compare: the vertical-blank one on entering VBlank (rule R253). -/
def entryRequest (m : Mode) (n : Nat) : Byte := if m = .hblank ∧ n = 144 then 0x01 else 0

/-- The end of a VBlank line that is not the last only counts the line (rule R254). -/
theorem exitMode_of_innerVblank {s : State} (hm : s.ppu.mode = .vblank) (hn : s.ppu.line ≠ 153) :
    exitMode s = { s with ppu := { s.ppu with line := s.ppu.line + 1 } } := by
  have hlast : ¬s.ppu.line + 1 = Config.totalLines := fun h => hn (Nat.succ.inj h)
  rw [exitMode, hm]
  exact if_neg hlast

/-- Every other exit ends with the compare, of a state with the same LYC and STAT bit 6 (rules R251, R253, R254). -/
theorem exitMode_compares {s : State} (h : ¬(s.ppu.mode = .vblank ∧ s.ppu.line ≠ 153)) :
    ∃ u, exitMode s = lineCompare u ∧ u.ppu.lyc = s.ppu.lyc ∧ u.ppu.statSel = s.ppu.statSel ∧
      u.ifReg = s.ifReg ||| entryRequest s.ppu.mode s.ppu.line := by
  unfold exitMode entryRequest
  cases hm : s.ppu.mode with
  | oamSearch => exact ⟨_, rfl, rfl, rfl, BitVec.or_zero.symm⟩
  | lineRender => exact ⟨_, rfl, rfl, rfl, BitVec.or_zero.symm⟩
  | hblank =>
    by_cases hline : s.ppu.line = 144
    · exact ⟨_, if_pos hline, rfl, rfl, by rw [if_pos ⟨rfl, hline⟩]; rfl⟩
    · exact ⟨_, if_neg hline, rfl, rfl, by rw [if_neg (mt And.right hline)]; exact BitVec.or_zero.symm⟩
  | vblank =>
    have hline : s.ppu.line = 153 := by_contra fun hn => h ⟨hm, hn⟩
    exact ⟨_, if_pos (congrArg (· + 1) hline), rfl, rfl, BitVec.or_zero.symm⟩

/-- Settles O54: `exitMode_compares` and what the compare writes; the one other exit is `exitMode_of_innerVblank`. -/
theorem lineCompare_atExit : Obligations.LineCompare := by
  intro s
  dsimp only
  by_cases h : s.ppu.mode = .vblank ∧ s.ppu.line ≠ 153
  · rw [if_pos h, exitMode_of_innerVblank h.1 h.2]
    exact ⟨rfl, rfl⟩
  · rw [if_neg h]
    obtain ⟨u, hexit, hlyc, hsel, hif⟩ := exitMode_compares h
    rw [hexit, lineCompare_ppu, lineCompare_ifReg, hif, hlyc, hsel]
    simp only [decide_eq_true_eq, entryRequest, and_self]

/-! ## The sprite search (rule R257) -/

/-- The first `n` elements that meet a condition, collected one by one while fewer than `n` are there. -/
theorem foldl_collect {α : Type} (p : α → Bool) (n : Nat) (l acc : List α) :
    l.foldl (fun c x => if p x = true ∧ c.length < n then c ++ [x] else c) acc =
      acc ++ (l.filter p).take (n - acc.length) := by
  induction l generalizing acc with
  | nil => simp
  | cons x l ih =>
    rw [List.foldl_cons, ih]
    by_cases hp : p x = true
    · by_cases hn : acc.length < n
      · obtain ⟨k, hk⟩ : ∃ k, n - acc.length = k + 1 := ⟨n - acc.length - 1, by omega⟩
        have hk' : n - (acc ++ [x]).length = k := by rw [List.length_append, List.length_singleton]; omega
        rw [if_pos ⟨hp, hn⟩, List.filter_cons_of_pos hp, hk, hk', List.take_succ_cons, List.append_assoc]
        rfl
      · rw [if_neg (mt And.right hn), show n - acc.length = 0 by omega, List.take_zero, List.take_zero]
    · rw [if_neg (mt And.left hp), List.filter_cons_of_neg hp]

/-- The rows a sprite covers, over the integers (rule R257). -/
theorem Sprite.covers_iff (o : Sprite) (line : Nat) (p : Ppu) :
    o.covers line p.spriteHeight = true ↔
      (o.y.toNat : Int) - 16 ≤ line ∧
        (line : Int) < (o.y.toNat : Int) - 16 + if p.lcdc.getLsbD 2 then 16 else 8 := by
  unfold Sprite.covers Ppu.spriteHeight
  rw [Bool.and_eq_true, decide_eq_true_iff, decide_eq_true_iff]
  split <;> omega

/-- Settles O55: filtering and taking ten is collecting one by one. -/
theorem spriteSearch : Obligations.SpriteSearch := by
  intro s line
  refine ⟨fun hm => ?_, ?_⟩
  · rw [exitMode, hm]
    show (lineCompare _).ppu.cache = _
    rw [lineCompare_ppu]
  · have hcollect := foldl_collect (Sprite.covers · line s.ppu.spriteHeight) 10 ((List.range 40).map (spriteSlot s)) []
    rw [List.foldl_map] at hcollect
    simp only [Sprite.covers_iff, and_assoc] at hcollect
    exact hcollect.symm

/-! ## The loop of a tick, turn by turn (rule R251) -/

/-- The state after one turn of the loop: the budget taken from the count, and the mode left. -/
def turn (s : State) : State := (exitMode s).withCnt (s.ppu.cnt - s.ppu.mode.budget)

theorem settle_of_lt {s : State} (h : s.ppu.cnt < s.ppu.mode.budget) : settle s = s := by
  rw [settle_eq, if_neg (by omega)]

theorem settle_of_le {s : State} (h : s.ppu.mode.budget ≤ s.ppu.cnt) : settle s = settle (turn s) := by
  rw [settle_eq, if_pos h]; rfl

/-- A property of every state whose count is below the budget, and of a state when of the one after a turn, is one of all
states: every turn lowers the count. -/
theorem turn_induct {P : State → Prop} (done : ∀ s, s.ppu.cnt < s.ppu.mode.budget → P s)
    (step : ∀ s, s.ppu.mode.budget ≤ s.ppu.cnt → P (turn s) → P s) (s : State) : P s := by
  induction hn : s.ppu.cnt using Nat.strong_induction_on generalizing s with
  | _ n ih =>
    have hb := budget_ge s.ppu.mode
    by_cases h : s.ppu.cnt < s.ppu.mode.budget
    · exact done s h
    · refine step s (by omega) (ih (turn s).ppu.cnt ?_ _ rfl)
      show s.ppu.cnt - s.ppu.mode.budget < n
      omega

/-- Running the loop does not hinder a later addition to the count. -/
theorem settle_addCnt (s : State) (d : Nat) :
    settle ((settle s).withCnt ((settle s).ppu.cnt + d)) = settle (s.withCnt (s.ppu.cnt + d)) := by
  induction s using turn_induct with
  | done s h => rw [settle_of_lt h]
  | step s h ih =>
    have hturn : turn (s.withCnt (s.ppu.cnt + d)) = (turn s).withCnt ((turn s).ppu.cnt + d) := by
      simp only [turn, exitMode_withCnt, State.withCnt_withCnt, State.withCnt_cnt, State.withCnt_mode]
      rw [Nat.sub_add_comm h]
    have hle : (s.withCnt (s.ppu.cnt + d)).ppu.mode.budget ≤ (s.withCnt (s.ppu.cnt + d)).ppu.cnt := Nat.le_add_right_of_le h
    rw [settle_of_le h, ih, settle_of_le hle, hturn]

theorem settle_lcdc (s : State) : (settle s).ppu.lcdc = s.ppu.lcdc :=
  settle_induct (P := fun t => t.ppu.lcdc = s.ppu.lcdc)
    (fun t _ ht => by obtain ⟨-, -, hexit, -⟩ := exitMode_ppu t; exact hexit.trans ht) s rfl

theorem ppuTick_lcdc {s : State} (hon : s.ppu.lcdc.getLsbD 7 = true) (c : Nat) : (ppuTick c s).ppu.lcdc = s.ppu.lcdc := by
  rw [ppuTick_on hon, settle_lcdc]; rfl

/-- With output enabled, ticks add up. -/
theorem ppuTick_ppuTick {s : State} (hon : s.ppu.lcdc.getLsbD 7 = true) (c d : Nat) :
    ppuTick d (ppuTick c s) = ppuTick (c + d) s := by
  have hon' : (ppuTick c s).ppu.lcdc.getLsbD 7 = true := by rw [ppuTick_lcdc hon, hon]
  rw [ppuTick_on hon', ppuTick_on hon, ppuTick_on hon, settle_addCnt]
  simp only [State.withCnt_withCnt, State.withCnt_cnt, Nat.add_assoc]

/-! ## The place in a frame (rules R250 to R254) -/

/-- The cycles from the entry of VBlank to the start of a mode on a line, the visible lines after the ten of VBlank. -/
def Mode.start : Mode → Nat → Nat
  | .vblank, n => 456 * (n - 144)
  | .oamSearch, n => 456 * (n + 10)
  | .lineRender, n => 456 * (n + 10) + 80
  | .hblank, n => 456 * (n + 9) + 252

@[simp] theorem Mode.start_vblank (n : Nat) : Mode.start .vblank n = 456 * (n - 144) := rfl
@[simp] theorem Mode.start_oamSearch (n : Nat) : Mode.start .oamSearch n = 456 * (n + 10) := rfl
@[simp] theorem Mode.start_lineRender (n : Nat) : Mode.start .lineRender n = 456 * (n + 10) + 80 := rfl
@[simp] theorem Mode.start_hblank (n : Nat) : Mode.start .hblank n = 456 * (n + 9) + 252 := rfl

@[simp] theorem Mode.budget_vblank : Mode.budget .vblank = 456 := rfl
@[simp] theorem Mode.budget_oamSearch : Mode.budget .oamSearch = 80 := rfl
@[simp] theorem Mode.budget_lineRender : Mode.budget .lineRender = 172 := rfl
@[simp] theorem Mode.budget_hblank : Mode.budget .hblank = 204 := rfl

/-- A mode and line that occur in a frame: HBlank of line 0 does not, disabled output alone leads to it (rule R255). -/
def Mode.inFrame (m : Mode) (n : Nat) : Prop := m.lineOk n ∧ ¬(m = .hblank ∧ n = 0)

theorem Mode.inFrame_vblank {n : Nat} : Mode.inFrame .vblank n ↔ 144 ≤ n ∧ n < 154 :=
  and_iff_left fun h => nomatch h.1
theorem Mode.inFrame_oamSearch {n : Nat} : Mode.inFrame .oamSearch n ↔ n < 144 := and_iff_left fun h => nomatch h.1
theorem Mode.inFrame_lineRender {n : Nat} : Mode.inFrame .lineRender n ↔ n < 144 := and_iff_left fun h => nomatch h.1
theorem Mode.inFrame_hblank {n : Nat} : Mode.inFrame .hblank n ↔ n ≤ 144 ∧ n ≠ 0 :=
  and_congr_right fun _ => not_congr (and_iff_right rfl)

/-- A mode ends where the next one starts; the frame's 70,224 cycles are over at the entry of VBlank. -/
theorem start_nextLine {m : Mode} {n : Nat} (h : m.inFrame n) :
    (nextLine m n).1.inFrame (nextLine m n).2 ∧
      m.start n + m.budget =
        (nextLine m n).1.start (nextLine m n).2 + if m = .hblank ∧ n = 144 then 70224 else 0 := by
  cases m with
  | vblank =>
    have hn := Mode.inFrame_vblank.1 h
    by_cases hlast : n + 1 = 154
    · have hnext : nextLine .vblank n = (.oamSearch, 0) := if_pos hlast
      simp only [hnext, Mode.inFrame_oamSearch, Mode.start_vblank, Mode.budget_vblank, Mode.start_oamSearch, reduceCtorEq,
        false_and, if_false]
      omega
    · have hnext : nextLine .vblank n = (.vblank, n + 1) := if_neg hlast
      simp only [hnext, Mode.inFrame_vblank, Mode.start_vblank, Mode.budget_vblank, reduceCtorEq, false_and, if_false]
      omega
  | oamSearch => exact ⟨Mode.inFrame_lineRender.2 (Mode.inFrame_oamSearch.1 h), rfl⟩
  | lineRender =>
    refine ⟨Mode.inFrame_hblank.2 ⟨Mode.inFrame_lineRender.1 h, n.succ_ne_zero⟩, ?_⟩
    show 456 * (n + 10) + 80 + 172 = 456 * (n + 1 + 9) + 252
    omega
  | hblank =>
    have hn := Mode.inFrame_hblank.1 h
    by_cases hlast : n = 144
    · subst hlast
      exact ⟨Mode.inFrame_vblank.2 (by decide), rfl⟩
    · have hnext : nextLine .hblank n = (.oamSearch, n) := if_neg hlast
      simp only [hnext, Mode.inFrame_oamSearch, Mode.start_hblank, Mode.budget_hblank, Mode.start_oamSearch, hlast, and_false,
        if_false]
      omega

/-- The mode, line and count at a time of the frame that starts with VBlank. -/
def placeAt (t : Nat) : Mode × Nat × Nat :=
  if t / 456 < 10 then (.vblank, 144 + t / 456, t % 456)
  else if t % 456 < 80 then (.oamSearch, t / 456 - 10, t % 456)
  else if t % 456 < 252 then (.lineRender, t / 456 - 10, t % 456 - 80)
  else (.hblank, t / 456 - 9, t % 456 - 252)

/-- The time in the frame tells mode, line and count. -/
theorem placeAt_start {m : Mode} {n c : Nat} (h : m.inFrame n) (hc : c < m.budget) : placeAt (m.start n + c) = (m, n, c) := by
  unfold placeAt
  cases m with
  | vblank =>
    have hn := Mode.inFrame_vblank.1 h
    rw [Mode.budget_vblank] at hc
    rw [Mode.start_vblank, if_pos (by omega)]
    simp only [Prod.mk.injEq, true_and]
    omega
  | oamSearch =>
    rw [Mode.budget_oamSearch] at hc
    rw [Mode.start_oamSearch, if_neg (by omega), if_pos (by omega)]
    simp only [Prod.mk.injEq, true_and]
    omega
  | lineRender =>
    rw [Mode.budget_lineRender] at hc
    rw [Mode.start_lineRender, if_neg (by omega), if_neg (by omega), if_pos (by omega)]
    simp only [Prod.mk.injEq, true_and]
    omega
  | hblank =>
    have hn := Mode.inFrame_hblank.1 h
    rw [Mode.budget_hblank] at hc
    rw [Mode.start_hblank, if_neg (by omega), if_neg (by omega), if_neg (by omega)]
    simp only [Prod.mk.injEq, true_and]
    omega

/-- Every mode of a frame ends within its 70,224 cycles. -/
theorem start_add_budget_le {m : Mode} {n : Nat} (h : m.inFrame n) : m.start n + m.budget ≤ 70224 := by
  cases m with
  | vblank => have hn := Mode.inFrame_vblank.1 h; rw [Mode.start_vblank, Mode.budget_vblank]; omega
  | oamSearch => have hn := Mode.inFrame_oamSearch.1 h; rw [Mode.start_oamSearch, Mode.budget_oamSearch]; omega
  | lineRender => have hn := Mode.inFrame_lineRender.1 h; rw [Mode.start_lineRender, Mode.budget_lineRender]; omega
  | hblank => have hn := Mode.inFrame_hblank.1 h; rw [Mode.start_hblank, Mode.budget_hblank]; omega

/-! ## A tick as a move in the frame -/

/-- Where the PPU is: mode, line and count. -/
def State.place (s : State) : Mode × Nat × Nat := (s.ppu.mode, s.ppu.line, s.ppu.cnt)

/-- The PPU's time in its frame, counted on past the end of a mode that is still to be left. -/
def State.frameTime (s : State) : Nat := s.ppu.mode.start s.ppu.line + s.ppu.cnt

/-- IF bit 0 is set by the exit of HBlank on line 144, and cleared by none. -/
theorem exitMode_ifReg_bit0 (s : State) :
    (exitMode s).ifReg.getLsbD 0 = (s.ifReg.getLsbD 0 || decide (s.ppu.mode = .hblank ∧ s.ppu.line = 144)) := by
  by_cases h : s.ppu.mode = .vblank ∧ s.ppu.line ≠ 153
  · rw [exitMode_of_innerVblank h.1 h.2]
    simp [h.1]
  · obtain ⟨u, hexit, -, -, hif⟩ := exitMode_compares h
    have hcompare (p : Prop) [Decidable p] : (if p then 0x02 else 0 : Byte).getLsbD 0 = false := by split <;> rfl
    rw [hexit, lineCompare_ifReg, hif, BitVec.getLsbD_or, BitVec.getLsbD_or, hcompare, Bool.or_false, entryRequest]
    split
    case isTrue hentry => rw [decide_eq_true hentry]; rfl
    case isFalse hentry => rw [decide_eq_false hentry]; rfl

/-- A turn of the loop keeps the time, less a whole frame when it enters VBlank and makes the vertical-blank request. -/
theorem turn_frameTime {s : State} (h : s.ppu.mode.inFrame s.ppu.line) (hle : s.ppu.mode.budget ≤ s.ppu.cnt) :
    (turn s).ppu.mode.inFrame (turn s).ppu.line ∧
      ∃ k, s.frameTime = (turn s).frameTime + 70224 * k ∧
        (turn s).ifReg.getLsbD 0 = (s.ifReg.getLsbD 0 || decide (0 < k)) := by
  have hmode : (exitMode s).ppu.mode = (nextLine s.ppu.mode s.ppu.line).1 := congrArg Prod.fst (exitMode_ppu s).1
  have hline : (exitMode s).ppu.line = (nextLine s.ppu.mode s.ppu.line).2 := congrArg Prod.snd (exitMode_ppu s).1
  obtain ⟨hin, hstart⟩ := start_nextLine h
  rw [← hmode, ← hline] at hin hstart
  have htime : (turn s).frameTime =
      (exitMode s).ppu.mode.start (exitMode s).ppu.line + (s.ppu.cnt - s.ppu.mode.budget) := rfl
  have hbit : (turn s).ifReg.getLsbD 0 = (s.ifReg.getLsbD 0 || decide (s.ppu.mode = .hblank ∧ s.ppu.line = 144)) :=
    exitMode_ifReg_bit0 s
  by_cases hentry : s.ppu.mode = .hblank ∧ s.ppu.line = 144
  · rw [if_pos hentry] at hstart
    refine ⟨hin, 1, by rw [htime, State.frameTime]; omega, ?_⟩
    rw [hbit, decide_eq_true hentry]
    rfl
  · rw [if_neg hentry] at hstart
    refine ⟨hin, 0, by rw [htime, State.frameTime]; omega, ?_⟩
    rw [hbit, decide_eq_false hentry]
    rfl

/-- The loop keeps the time, less a whole frame for every vertical-blank request it makes. -/
theorem settle_frameTime (s : State) (h : s.ppu.mode.inFrame s.ppu.line) :
    (settle s).ppu.mode.inFrame (settle s).ppu.line ∧
      ∃ k, s.frameTime = (settle s).frameTime + 70224 * k ∧
        (settle s).ifReg.getLsbD 0 = (s.ifReg.getLsbD 0 || decide (0 < k)) := by
  induction s using turn_induct with
  | done s hlt => rw [settle_of_lt hlt]; exact ⟨h, 0, rfl, (Bool.or_false _).symm⟩
  | step s hle ih =>
    obtain ⟨hin, j, htime, hbit⟩ := turn_frameTime h hle
    obtain ⟨hin', k, htime', hbit'⟩ := ih hin
    rw [settle_of_le hle]
    refine ⟨hin', j + k, by omega, ?_⟩
    rw [hbit', hbit, Bool.or_assoc, ← Bool.decide_or]
    congr 2
    exact propext (by omega)

/-- A tick with output enabled moves the PPU on in its frame; where it passes the frame's end it makes the vertical-blank
request. -/
theorem ppuTick_frame {s : State} (hon : s.ppu.lcdc.getLsbD 7 = true) (h : s.ppu.mode.inFrame s.ppu.line) (c : Nat) :
    (ppuTick c s).place = placeAt ((s.frameTime + c) % 70224) ∧
      (70224 ≤ s.frameTime + c → (ppuTick c s).ifReg.getLsbD 0 = true) := by
  obtain ⟨hin, k, htime, hbit⟩ := settle_frameTime (s.withCnt (s.ppu.cnt + c)) h
  have hcnt := settle_cnt_lt (s.withCnt (s.ppu.cnt + c))
  rw [← ppuTick_on hon] at hin hcnt htime hbit
  have hsum : s.frameTime + c = (ppuTick c s).frameTime + 70224 * k := htime ▸ Nat.add_assoc _ _ c
  have hlt : (ppuTick c s).frameTime < 70224 :=
    Nat.lt_of_lt_of_le (Nat.add_lt_add_left hcnt _) (start_add_budget_le hin)
  refine ⟨?_, fun hge => ?_⟩
  · rw [hsum, Nat.add_mul_mod_self_left, Nat.mod_eq_of_lt hlt]
    exact (placeAt_start hin hcnt).symm
  · rw [hbit, decide_eq_true (by omega : 0 < k), Bool.or_true]

/-- Settles O57: `ppuTick_ppuTick`, and a frame later the time in the frame is the same. -/
theorem frameOfTicks : Obligations.FrameOfTicks := by
  intro s hlegal hon
  refine ⟨fun c d => ppuTick_ppuTick hon c d, fun hzero => ?_⟩
  have hin : s.ppu.mode.inFrame s.ppu.line := ⟨hlegal.line_ok, hzero⟩
  obtain ⟨hplace, hbit⟩ := ppuTick_frame hon hin 70224
  have hlt : s.frameTime < 70224 :=
    Nat.lt_of_lt_of_le (Nat.add_lt_add_left hlegal.cnt_lt _) (start_add_budget_le hin)
  have hsame : (ppuTick 70224 s).place = s.place := by
    rw [hplace, Nat.add_mod_right, Nat.mod_eq_of_lt hlt]
    exact placeAt_start hin hlegal.cnt_lt
  obtain ⟨hmode, hrest⟩ := Prod.mk.inj hsame
  obtain ⟨hline, hcnt⟩ := Prod.mk.inj hrest
  exact ⟨hmode, hline, hcnt, hbit (Nat.le_add_left _ _)⟩

/-! ## The timing of a line (rules R252, R255) -/

/-- With output disabled a tick forces HBlank, line 0 and count 0 (rule R255). -/
theorem ppuTick_off {s : State} (hoff : s.ppu.lcdc.getLsbD 7 = false) (c : Nat) :
    ppuTick c s = { s with ppu := { s.ppu with mode := .hblank, line := 0, cnt := 0 } } :=
  if_neg (ne_true_of_eq_false hoff)

/-- From the start of a visible line a tick moves to the place that is as many cycles on in the frame. -/
theorem ppuTick_from_lineStart {s : State} {n : Nat} (hon : s.ppu.lcdc.getLsbD 7 = true) (hm : s.ppu.mode = .oamSearch)
    (hcnt : s.ppu.cnt = 0) (hline : s.ppu.line = n) (hn : n < 144) (c : Nat) :
    (ppuTick c s).place = placeAt ((456 * (n + 10) + c) % 70224) := by
  have hin : s.ppu.mode.inFrame s.ppu.line := by rw [hm, hline]; exact Mode.inFrame_oamSearch.2 hn
  have htime : s.frameTime = 456 * (n + 10) := by rw [State.frameTime, hm, hcnt, hline]; rfl
  rw [← htime]
  exact (ppuTick_frame hon hin c).1

/-- Within a visible line the place is the one in its mode. -/
theorem placeAt_of_inFrame {m : Mode} {n c t : Nat} (h : m.inFrame n) (hc : c < m.budget) (ht : m.start n + c = t) :
    placeAt (t % 70224) = (m, n, c) := by
  have hlt : m.start n + c < 70224 := Nat.lt_of_lt_of_le (Nat.add_lt_add_left hc _) (start_add_budget_le h)
  rw [← ht, Nat.mod_eq_of_lt hlt, placeAt_start h hc]

/-- The end of a visible line is the start of the next one, of VBlank after line 143. -/
theorem placeAt_lineEnd {n : Nat} (hn : n < 144) :
    placeAt ((456 * (n + 10) + 456) % 70224) = (if n + 1 = 144 then .vblank else .oamSearch, n + 1, 0) := by
  by_cases hlast : n + 1 = 144
  · obtain rfl : n = 143 := by omega
    rfl
  · rw [if_neg hlast]
    exact placeAt_of_inFrame (Mode.inFrame_oamSearch.2 (by omega)) (by decide) rfl

/-- Settles O53: the ticks add up to one from the line's start, and its place is read off the frame. -/
theorem displayTiming : Obligations.DisplayTiming := by
  refine ⟨fun c s hoff => ppuTick_off hoff c, fun s n hon hm hcnt hline hn => ?_⟩
  have hplace := ppuTick_from_lineStart hon hm hcnt hline hn
  have hsearch : Mode.inFrame .oamSearch n := Mode.inFrame_oamSearch.2 hn
  have hrender : Mode.inFrame .lineRender n := Mode.inFrame_lineRender.2 hn
  have hblank : Mode.inFrame .hblank (n + 1) := Mode.inFrame_hblank.2 ⟨hn, n.succ_ne_zero⟩
  simp only [ppuTick_ppuTick hon]
  exact ⟨(hplace 79).trans (placeAt_of_inFrame hsearch (by decide) rfl),
    (hplace 80).trans (placeAt_of_inFrame hrender (by decide) rfl),
    (hplace 80).trans (placeAt_of_inFrame hrender (by decide) rfl),
    (hplace 83).trans (placeAt_of_inFrame hrender (by decide) rfl),
    (hplace 252).trans (placeAt_of_inFrame hblank (by decide) rfl),
    (hplace 456).trans (placeAt_lineEnd hn), (hplace 456).trans (placeAt_lineEnd hn)⟩

end Sys2Proof.Machine
end
